-- ==== Sys2Proof/Word.lean ====
section
/-!
DEFINITION. The two word sizes of the hardware (00_scope.md R3, R5).
-/

namespace Sys2Proof

/-- An 8-bit value: register, memory cell, port datum (R3). -/
abbrev Byte := BitVec 8

/-- A 16-bit value: register pair, PC, SP, IX, IY, memory address, port address (R3). -/
abbrev Word := BitVec 16

end Sys2Proof
end

