-- ==== Sys2Proof/Machine/Bits.lean ====
section
/-!
DEFINITION. Bit fields, sign extension and byte order (00_scope.md R4, R5; 10_state.md R42; 20_memory.md R74): the
helpers that decoding, operands and meanings share.
-/

namespace Sys2Proof

/-- `hi:lo`, the word `(hi << 8) or lo` (R4). -/
def mkWord (hi lo : Byte) : Word := hi ++ lo

/-- The high byte `w >> 8` (R42). -/
def hiByte (w : Word) : Byte := w.extractLsb' 8 8

/-- The low byte `w & 0xFF` (R42). -/
def loByte (w : Word) : Byte := w.extractLsb' 0 8

/-- `sext_16(b)`: a signed displacement or offset as a word (R5). -/
def sext16 (b : Byte) : Word := b.signExtend 16

/-- `zext_16(b)` (R5). -/
def zext16 (b : Byte) : Word := b.setWidth 16

/-- `v[n]`: bit `n` of a byte (R4, R42). -/
def bitOf (v : Byte) (n : Nat) : Bool := v.getLsbD n

/-- `1 << b` for a bit number of three bits (R42). -/
def bitMask (b : BitVec 3) : Byte := 1#8 <<< b.toNat

/-- Setting bit `b`: `v or (1 << b)` (R42, R434). -/
def setBit (b : BitVec 3) (v : Byte) : Byte := v ||| bitMask b

/-- Clearing bit `b`: `v and not (1 << b)` (R42, R436). -/
def resBit (b : BitVec 3) (v : Byte) : Byte := v &&& ~~~ bitMask b

/-- The high half of a byte, `v[7:4]` (R4). -/
def hiNibble (v : Byte) : BitVec 4 := v.extractLsb' 4 4

/-- The low half of a byte, `v[3:0]` (R4). -/
def loNibble (v : Byte) : BitVec 4 := v.extractLsb' 0 4

/-- The byte with these two halves, `(hi << 4) or lo` (R438). -/
def mkByte (hi lo : BitVec 4) : Byte := hi ++ lo

/-- An opcode byte from its fields x (bits 7..6), y (bits 5..3) and z (bits 2..0) (R103). -/
def opByte (x y z : Nat) : Byte := BitVec.ofNat 8 (x * 64 + y * 8 + z)

/-- Field x of an opcode byte: bits 7..6 (R103). -/
def fieldX (op : Byte) : Nat := op.toNat / 64

/-- Field y of an opcode byte: bits 5..3 (R103). -/
def fieldY (op : Byte) : Nat := op.toNat / 8 % 8

/-- Field z of an opcode byte: bits 2..0 (R103). -/
def fieldZ (op : Byte) : Nat := op.toNat % 8

end Sys2Proof
end

