-- ==== Sys2Proof/Machine/Flags.lean ====
section
/-!
DEFINITION. Every flag computation of the spec: results are computed in unbounded integers and narrowed at the end
(00_scope.md R5; 42_alu8.md R340 to R346; 43_alu16.md R400, R401; 44_rotate_shift_bit.md R410, R411; 46_block.md R490,
R494; 47_io.md R506, R510). The layout of F is R28: S 0x80, Z 0x40, Y 0x20, H 0x10, X 0x08, P/V 0x04, N 0x02, C 0x01.
-/

namespace Sys2Proof.Machine

/-- `m if c else 0`. -/
def flagIf (c : Bool) (m : Byte) : Byte := if c then m else 0

/-- The number of 1 bits of a byte. -/
def onesCount (v : Byte) : Nat :=
  (bitOf v 0).toNat + (bitOf v 1).toNat + (bitOf v 2).toNat + (bitOf v 3).toNat
    + (bitOf v 4).toNat + (bitOf v 5).toNat + (bitOf v 6).toNat + (bitOf v 7).toNat

/-- `SZYX(v)` (R340). -/
def szyx (v : Byte) : Byte := (v &&& 0xA8) ||| flagIf (v == 0) 0x40

/-- `PAR(v)` (R340): P/V when the number of 1 bits is even. -/
def par (v : Byte) : Byte := flagIf (onesCount v % 2 == 0) 0x04

/-- `ADD8(a, b, cin)` (R341): result and flags. -/
def add8 (a b : Byte) (cin : Bool) : Byte × Byte :=
  let s := a.toNat + b.toNat + cin.toNat
  let res : Byte := BitVec.ofNat 8 s
  (res, szyx res
    ||| flagIf (a.toNat % 16 + b.toNat % 16 + cin.toNat > 0x0F) 0x10
    ||| flagIf (bitOf a 7 == bitOf b 7 && bitOf res 7 != bitOf a 7) 0x04
    ||| flagIf (s > 255) 0x01)

/-- `SUB8(a, b, cin)` (R342): result and flags. -/
def sub8 (a b : Byte) (cin : Bool) : Byte × Byte :=
  let s : Int := (a.toNat : Int) - b.toNat - cin.toNat
  let res : Byte := BitVec.ofInt 8 s
  (res, szyx res ||| 0x02
    ||| flagIf ((a.toNat % 16 : Nat) - (b.toNat % 16 : Nat) - (cin.toNat : Int) < 0) 0x10
    ||| flagIf (bitOf a 7 != bitOf b 7 && bitOf res 7 != bitOf a 7) 0x04
    ||| flagIf (s < 0) 0x01)

/-- `CP8(a, b)` (R343): the flags of `a - b`, bits 5 and 3 from the operand. -/
def cp8 (a b : Byte) : Byte := ((sub8 a b false).2 &&& 0xD7) ||| (b &&& 0x28)

/-- `AND8(a, b)` (R344). -/
def and8 (a b : Byte) : Byte × Byte :=
  let res := a &&& b
  (res, szyx res ||| 0x10 ||| par res)

/-- `OR8(a, b)` (R344). -/
def or8 (a b : Byte) : Byte × Byte :=
  let res := a ||| b
  (res, szyx res ||| par res)

/-- `XOR8(a, b)` (R344). -/
def xor8 (a b : Byte) : Byte × Byte :=
  let res := a ^^^ b
  (res, szyx res ||| par res)

/-- `INC8(v, F)` (R345). -/
def inc8 (v f : Byte) : Byte × Byte :=
  let res := v + 1
  (res, (f &&& 0x01) ||| szyx res ||| flagIf (v.toNat % 16 == 0x0F) 0x10 ||| flagIf (v == 0x7F) 0x04)

/-- `DEC8(v, F)` (R345). -/
def dec8 (v f : Byte) : Byte × Byte :=
  let res := v - 1
  (res, (f &&& 0x01) ||| 0x02 ||| szyx res ||| flagIf (v.toNat % 16 == 0x00) 0x10 ||| flagIf (v == 0x80) 0x04)

/-- `DAA8(a, F)` (R346). -/
def daa8 (a f : Byte) : Byte × Byte :=
  let n := bitOf f 1
  let h := bitOf f 4
  let low := decide (a.toNat % 16 > 9)
  let c' := bitOf f 0 || decide (a.toNat > 0x99)
  let diff := flagIf (h || low) 0x06 + flagIf c' 0x60
  let res := if n then a - diff else a + diff
  let h' := if n then h && decide (a.toNat % 16 < 6) else low
  (res, szyx res ||| par res ||| flagIf n 0x02 ||| flagIf h' 0x10 ||| flagIf c' 0x01)

/-- `ADD16(a, b, F)` (R400). -/
def add16 (a b : Word) (f : Byte) : Word × Byte :=
  let s := a.toNat + b.toNat
  let res : Word := BitVec.ofNat 16 s
  (res, (f &&& 0xC4) ||| (hiByte res &&& 0x28)
    ||| flagIf (a.toNat % 4096 + b.toNat % 4096 > 0x0FFF) 0x10
    ||| flagIf (s > 0xFFFF) 0x01)

/-- `ADC16(a, b, cin)` (R401). -/
def adc16 (a b : Word) (cin : Bool) : Word × Byte :=
  let s := a.toNat + b.toNat + cin.toNat
  let res : Word := BitVec.ofNat 16 s
  (res, (hiByte res &&& 0xA8) ||| flagIf (res == 0) 0x40
    ||| flagIf (a.toNat % 4096 + b.toNat % 4096 + cin.toNat > 0x0FFF) 0x10
    ||| flagIf (a.getLsbD 15 == b.getLsbD 15 && res.getLsbD 15 != a.getLsbD 15) 0x04
    ||| flagIf (s > 0xFFFF) 0x01)

/-- `SBC16(a, b, cin)` (R401). -/
def sbc16 (a b : Word) (cin : Bool) : Word × Byte :=
  let s : Int := (a.toNat : Int) - b.toNat - cin.toNat
  let res : Word := BitVec.ofInt 16 s
  (res, 0x02 ||| (hiByte res &&& 0xA8) ||| flagIf (res == 0) 0x40
    ||| flagIf ((a.toNat % 4096 : Nat) - (b.toNat % 4096 : Nat) - (cin.toNat : Int) < 0) 0x10
    ||| flagIf (a.getLsbD 15 != b.getLsbD 15 && res.getLsbD 15 != a.getLsbD 15) 0x04
    ||| flagIf (s < 0) 0x01)

/-- The rotate and shift operations of `ROT8` (R107, R410), in the order of their codes. -/
inductive RotOp where
  | rlc | rrc | rl | rr | sla | sra | sll | srl
deriving DecidableEq, Repr

/-- `ROT8(op, v, cin)` (R410): the result and the bit moved out. -/
def rot8 (op : RotOp) (v : Byte) (cin : Bool) : Byte × Bool :=
  match op with
  | .rlc => ((v <<< 1) ||| flagIf (bitOf v 7) 0x01, bitOf v 7)
  | .rrc => ((v >>> 1) ||| flagIf (bitOf v 0) 0x80, bitOf v 0)
  | .rl => ((v <<< 1) ||| flagIf cin 0x01, bitOf v 7)
  | .rr => ((v >>> 1) ||| flagIf cin 0x80, bitOf v 0)
  | .sla => (v <<< 1, bitOf v 7)
  | .sra => ((v >>> 1) ||| (v &&& 0x80), bitOf v 0)
  | .sll => ((v <<< 1) ||| 0x01, bitOf v 7)
  | .srl => (v >>> 1, bitOf v 0)

/-- `ROTF(op, v, F)` (R410). -/
def rotf (op : RotOp) (v f : Byte) : Byte × Byte :=
  let r := rot8 op v (bitOf f 0)
  (r.1, szyx r.1 ||| par r.1 ||| flagIf r.2 0x01)

/-- The short accumulator rotates (R412 to R415): S, Z and P/V stay. -/
def rotA (op : RotOp) (a f : Byte) : Byte × Byte :=
  let r := rot8 op a (bitOf f 0)
  (r.1, (f &&& 0xC4) ||| (r.1 &&& 0x28) ||| flagIf r.2 0x01)

/-- `BITF(b, v, yx, F)` (R411). -/
def bitf (b : BitVec 3) (v yx f : Byte) : Byte :=
  let t := bitOf v b.toNat
  (f &&& 0x01) ||| 0x10 ||| (yx &&& 0x28) ||| flagIf (!t) 0x44 ||| flagIf (b == 7 && t) 0x80

/-- Flags of `RLD`, `RRD`, `IN r,(C)`, `IN (C)`: from a byte, C kept (R438, R501). -/
def szpKeepC (v f : Byte) : Byte := (f &&& 0x01) ||| szyx v ||| par v

/-- Flags of `LD A,I` and `LD A,R`: P/V is IFF2 (R313, R314). -/
def loadIRFlags (v : Byte) (iff2 : Bool) (f : Byte) : Byte := (f &&& 0x01) ||| szyx v ||| flagIf iff2 0x04

/-- Flags of `CPL` for the new A (R396). -/
def cplFlags (a f : Byte) : Byte := (f &&& 0xC5) ||| 0x12 ||| (a &&& 0x28)

/-- Flags of `SCF` (R398, D17; entry 16). -/
def scfFlags (a f : Byte) : Byte := (f &&& 0xC4) ||| (a &&& 0x28) ||| 0x01

/-- Flags of `CCF` (R399, D17; entry 16). -/
def ccfFlags (a f : Byte) : Byte :=
  (f &&& 0xC4) ||| (a &&& 0x28) ||| flagIf (bitOf f 0) 0x10 ||| flagIf (!bitOf f 0) 0x01

/-- Flags of the block moves for the byte moved, A and the decremented BC (R490). -/
def blockMoveFlags (v a : Byte) (bc : Word) (f : Byte) : Byte :=
  let n := v + a
  (f &&& 0xC1) ||| flagIf (bc != 0) 0x04 ||| (n &&& 0x08) ||| ((n &&& 0x02) <<< 4)

/-- Flags of the block compares for A, the byte read and the decremented BC (R494). -/
def blockCompareFlags (a v : Byte) (bc : Word) (f : Byte) : Byte :=
  let res := a - v
  let h := decide ((a.toNat % 16 : Nat) - ((v.toNat % 16 : Nat) : Int) < 0)
  let n := res - flagIf h 1
  (f &&& 0x01) ||| 0x02 ||| (res &&& 0x80) ||| flagIf (res == 0) 0x40 ||| flagIf h 0x10 ||| flagIf (bc != 0) 0x04
    ||| (n &&& 0x08) ||| ((n &&& 0x02) <<< 4)

/-- Flags of the block input and output instructions for the decremented B, the byte and the other addend of k
(R506, R510; entry 15). -/
def blockIoFlags (b v addend : Byte) : Byte :=
  let k := v.toNat + addend.toNat
  szyx b ||| flagIf (bitOf v 7) 0x02 ||| flagIf (k > 255) 0x11 ||| par (BitVec.ofNat 8 (k % 8) ^^^ b)

end Sys2Proof.Machine
end

