-- ==== Sys2Proof/Config.lean ====
section
/-!
DEFINITION. What the spec leaves to a parameter (00_scope.md R3): named constants, and the free values, which have no
body so that no proof can see them.
-/

namespace Sys2Proof.Config

/-- What a byte of memory that nothing has written reads as. DESIGN CHOICE (entry 2), unsafe: R87 leaves the initial
content to a parameter, "zero in the examples of this spec". -/
def unwrittenByte : Byte := 0x00

/-- What `PortRead` returns when the bus agent has no response of its own: "every `PortRead` returns 0xFF" (R87, D5). -/
def idlePortByte : Byte := 0xFF

/-- PREFIX_FUEL of R111 and D15: at this many consecutive 0xDD/0xFD bytes the step is stuck. -/
def prefixFuel : Nat := 65536

/-- BIT_HL_YX (R433, D16): the byte whose bits 5 and 3 the n-th execution of `BIT b,(HL)` mirrors. Free value
(entry 4), safe. -/
opaque bitHlYx : Nat → Byte

/-- OUT_C_0_VALUE (R505, D18): the byte `OUT (C),0` writes. Free value (entry 5), safe. -/
opaque outC0Value : Byte

/-- BUS (R3, R87, D5): what the bus agent does where its map names its functions, "a pair of functions with its own
state". The own state is a list of numbers; a function that answers `none` signals a failure (R86). Free values
(entry 24), safe: no proof can see them, so what is proved holds for every bus agent. This one is `ReadMemory`. -/
opaque busReadMemory : List Nat → Word → Option (Byte × List Nat)

/-- `WriteMemory` of BUS. -/
opaque busWriteMemory : List Nat → Word → Byte → Option (List Nat)

/-- `ReadPort` of BUS. -/
opaque busReadPort : List Nat → Word → Option (Byte × List Nat)

/-- `WritePort` of BUS. -/
opaque busWritePort : List Nat → Word → Byte → Option (List Nat)

/-- RESET_REGS (R3, R40): the reset values the spec leaves to a parameter. -/
structure ResetRegs where
  bc : Word
  de : Word
  hl : Word
  af' : Word
  bc' : Word
  de' : Word
  hl' : Word
  ix : Word
  iy : Word
deriving DecidableEq, Repr

/-- The default of RESET_REGS, which `State.reset` takes: "all ones" (R40, D9). DESIGN CHOICE (entry 1), unsafe. -/
def resetRegs : ResetRegs :=
  { bc := 0xFFFF, de := 0xFFFF, hl := 0xFFFF, af' := 0xFFFF, bc' := 0xFFFF, de' := 0xFFFF, hl' := 0xFFFF,
    ix := 0xFFFF, iy := 0xFFFF }

end Sys2Proof.Config
end

