-- ==== Sys2Proof/Machine/State.lean ====
section
/-!
DEFINITION. The state of the machine (10_state.md R20 to R40; 20_memory.md R70, R71, R87), why a step can stop, and
the state right after reset (R40, R200). Plain data throughout.
-/

namespace Sys2Proof.Machine

/-- Why the machine stops with a fault. -/
inductive Fault where
  /-- `fault(bus)`: a bus access failed (R86, R170). Raised by the step that makes the access, and by every step after
  it, the machine being stopped. Safe: the spec calls the state a failed step leaves unusable. -/
  | bus
  /-- Stuck: PREFIX_FUEL consecutive 0xDD/0xFD bytes in one step (R111 e, D15). Raised by the step. Safe: the machine
  stops where the hardware would go on fetching. -/
  | prefixChain
deriving DecidableEq, Repr

/-- Why the model has no meaning for a step. -/
inductive Refusal where
  /-- An instruction without a meaning yet. Raised by an arm of `exec`; no arm raises it. Safe. -/
  | notModelled (mnemonic : String)
  /-- Interrupt mode 0 with a device byte that is no restart instruction: "For any other byte the model refuses the
  step" (R158, D13). Raised by the acceptance of a maskable interrupt. Safe. -/
  | mode0Byte (d : Byte)
  /-- A fallback around a term that is no BASE instruction of R531. Raised by `exec` on a term that is not well
  formed, which no bytes decode to. Safe. -/
  | illFormed
deriving DecidableEq, Repr

/-- Interrupt mode: 0, 1 or 2; "the value 3 is unreachable" (R34). -/
inductive IntMode where
  | im0 | im1 | im2
deriving DecidableEq, Repr

/-- One operation of the bus agent, with its address and its datum (R72, R77, R87). -/
inductive BusEvent where
  | fetch (a : Word) (v : Byte)
  | memRead (a : Word) (v : Byte)
  | memWrite (a : Word) (v : Byte)
  | portRead (p : Word) (v : Byte)
  | portWrite (p : Word) (v : Byte)
deriving DecidableEq, Repr

/-! ## The bus agent: the parameter BUS (R3, R87, D5; entry 24) -/

/-- The listed bytes of memory, by rising address; every other address reads `Config.unwrittenByte` (R70, R87). -/
abbrev Memory := List Host.Cell

/-- How the bus agent answers at an address of memory: "RAM, ROM, a device, nothing" (R70), or a failure (R86). -/
inductive MemAnswer where
  /-- readable and writable memory -/
  | ram
  /-- memory that ignores writes -/
  | rom
  /-- nothing there: reads this byte, ignores writes -/
  | fixed (v : Byte)
  /-- the functions of BUS, `Config.busReadMemory` and `Config.busWriteMemory` -/
  | functions
  /-- every access fails -/
  | fails
deriving DecidableEq, Repr

/-- How the bus agent answers at a port (R71, R86). -/
inductive PortAnswer where
  /-- reads the next waiting response, 0xFF where none waits; ignores writes -/
  | responses
  /-- reads this byte, ignores writes -/
  | fixed (v : Byte)
  /-- the functions of BUS, `Config.busReadPort` and `Config.busWritePort` -/
  | functions
  /-- every access fails -/
  | fails
deriving DecidableEq, Repr

/-- The addresses whose bits under `mask` lie from `first` to `last`, and what answers there. -/
structure Region (α : Type) where
  mask : Word
  first : Word
  last : Word
  answer : α
deriving DecidableEq, Repr

/-- The bus agent: its fixed part (the two maps and a failing access) and its own state. -/
structure Bus where
  /-- what memory holds (R70, R87) -/
  mem : Memory
  /-- the first region that holds an address answers there; where none does, RAM -/
  memMap : List (Region MemAnswer)
  /-- the same for ports; where none does, the waiting responses -/
  portMap : List (Region PortAnswer)
  /-- the port responses that wait, the next one first (R71, R87; entry 3) -/
  portIn : List Byte
  /-- the own state of the functions of BUS (R87; entry 24) -/
  own : List Nat
  /-- the access that fails, counted from 0 as `trace` counts them, if one does (R86; entry 6) -/
  failsAt : Option Nat
  /-- an access has failed: the machine is stopped (R86) -/
  failed : Bool
  /-- every access since reset, the latest first (R77, R87; entry 7) -/
  trace : List BusEvent
deriving DecidableEq, Repr

/-- The default platform of R87: "65536 bytes of RAM, every address readable and writable", every port reads 0xFF, "no
access fails", nothing written yet. -/
def Bus.flat : Bus :=
  { mem := [], memMap := [], portMap := [], portIn := [], own := [], failsAt := none, failed := false, trace := [] }

/-- The whole machine. -/
structure State where
  /-- accumulator (R20) -/
  a : Byte
  /-- flags S Z Y H X P/V N C, bit 7 to bit 0 (R28) -/
  f : Byte
  b : Byte
  c : Byte
  d : Byte
  e : Byte
  h : Byte
  l : Byte
  /-- the alternate bank (R22) -/
  a' : Byte
  f' : Byte
  b' : Byte
  c' : Byte
  d' : Byte
  e' : Byte
  h' : Byte
  l' : Byte
  /-- index registers (R23) -/
  ix : Word
  iy : Word
  /-- stack pointer (R24) -/
  sp : Word
  /-- program counter (R25) -/
  pc : Word
  /-- interrupt vector register (R26) -/
  i : Byte
  /-- refresh register: bit 7 storage, bits 6..0 a counter of M1 fetches (R27) -/
  r : Byte
  /-- interrupt enable flip-flops (R32) -/
  iff1 : Bool
  iff2 : Bool
  /-- true during the step after `EI` (R33) -/
  eiDelay : Bool
  /-- interrupt mode (R34) -/
  im : IntMode
  /-- Halted (R35) -/
  halted : Bool
  /-- request latches (R36) -/
  nmiPending : Bool
  intPending : Option Byte
  /-- the bus agent (R72, R87) -/
  bus : Bus
  /-- the parameter RESET_REGS, "fixed per model instance" (R40, R201, D9): no step and no `Reset()` changes it -/
  resetRegs : Config.ResetRegs
  /-- MODEL'S OWN: how many free values of BIT_HL_YX have been used (R433, D16; entry 4) -/
  freeCount : Nat
  /-- the T-state count the last step returned (R7, R210; entry 8) -/
  tStates : Nat
deriving DecidableEq, Repr

/-- The state after power-on with these parameters (R40, R200, R202). -/
def State.powerOn (rr : Config.ResetRegs) (b : Bus) : State :=
  { a := 0xFF, f := 0xFF
    b := hiByte rr.bc, c := loByte rr.bc, d := hiByte rr.de, e := loByte rr.de, h := hiByte rr.hl, l := loByte rr.hl
    a' := hiByte rr.af', f' := loByte rr.af', b' := hiByte rr.bc', c' := loByte rr.bc'
    d' := hiByte rr.de', e' := loByte rr.de', h' := hiByte rr.hl', l' := loByte rr.hl'
    ix := rr.ix, iy := rr.iy, sp := 0xFFFF, pc := 0x0000, i := 0x00, r := 0x00
    iff1 := false, iff2 := false, eiDelay := false, im := .im0
    halted := false, nmiPending := false, intPending := none
    bus := b, resetRegs := rr, freeCount := 0, tStates := 0 }

/-- The state after power-on with the defaults of RESET_REGS (entry 1) and BUS (R87). -/
def State.reset : State := State.powerOn Config.resetRegs Bus.flat

end Sys2Proof.Machine
end

