-- ==== Sys2Proof/Machine/Ops.lean ====
section
/-!
DEFINITION. The shared operations over memory, ports, stack and clock (20_memory.md R73, R74, R87, R89), the entry
into an interrupt handler and the return from it, the halted step, and the host's entry points (60_exceptions.md R152,
R156 to R163; 70_reset_and_hazards.md R200).
-/

namespace Sys2Proof.Machine

/-- What `exec` and `step` answer. -/
abbrev Result := Host.Outcome State Fault Refusal

/-! ## The list of memory bytes -/

/-- The byte at an address: its listed value, else the value of an unlisted address (R70, R87; entry 2). -/
def Memory.read (m : Memory) (a : Word) : Byte :=
  match m with
  | [] => Config.unwrittenByte
  | (k, v) :: rest => if k = a.toNat then v else Memory.read rest a

/-- Lists a byte before the first entry with a higher address. -/
def Memory.insert (m : Memory) (k : Nat) (v : Byte) : Memory :=
  match m with
  | [] => [(k, v)]
  | (j, w) :: rest => if k < j then (k, v) :: (j, w) :: rest else (j, w) :: Memory.insert rest k v

/-- Memory with no entry for an address. -/
def Memory.erase (m : Memory) (k : Nat) : Memory := m.filter fun e => e.1 != k

/-- A store of one byte; the value an unlisted address reads as is not listed. -/
def Memory.write (m : Memory) (a : Word) (v : Byte) : Memory :=
  if v = Config.unwrittenByte then Memory.erase m a.toNat else Memory.insert (Memory.erase m a.toNat) a.toNat v

/-- Canonical from address `lo` on: addresses strictly rising and below 65536, no entry equal to what an unlisted
address reads as. -/
def Memory.wfFrom (lo : Nat) (m : Memory) : Bool :=
  match m with
  | [] => true
  | (k, v) :: rest => decide (lo ≤ k) && decide (k < 65536) && decide (v ≠ Config.unwrittenByte) && Memory.wfFrom (k + 1) rest

/-- Canonical form of memory: equal memories are equal lists. -/
def Memory.wf (m : Memory) : Bool := Memory.wfFrom 0 m

/-! ## The bus agent (R72, R73, R77, R86, R87; entries 3, 6, 7, 24) -/

/-- A region holds an address. -/
def Region.holds {α : Type} (r : Region α) (a : Word) : Bool :=
  decide (r.first ≤ a &&& r.mask) && decide (a &&& r.mask ≤ r.last)

/-- The answer of the first region that holds an address. -/
def answerAt {α : Type} (otherwise : α) (map : List (Region α)) (a : Word) : α :=
  match map with
  | [] => otherwise
  | r :: rest => if r.holds a then r.answer else answerAt otherwise rest a

def Bus.memAnswer (b : Bus) (a : Word) : MemAnswer := answerAt .ram b.memMap a

def Bus.portAnswer (b : Bus) (p : Word) : PortAnswer := answerAt .responses b.portMap p

/-- The byte memory holds at an address, with no bus operation. -/
def Bus.cell (b : Bus) (a : Word) : Byte := Memory.read b.mem a

/-- What a read answers: the byte and the agent afterwards, or a failure. -/
abbrev ReadAnswer := Option (Byte × Bus)

/-- The answer to a read of memory. -/
def Bus.answerRead (b : Bus) (a : Word) : ReadAnswer :=
  match b.memAnswer a with
  | .ram => some (b.cell a, b)
  | .rom => some (b.cell a, b)
  | .fixed v => some (v, b)
  | .functions => (Config.busReadMemory b.own a).map fun r => (r.1, { b with own := r.2 })
  | .fails => none

/-- The agent after a write of memory. -/
def Bus.answerWrite (b : Bus) (a : Word) (v : Byte) : Option Bus :=
  match b.memAnswer a with
  | .ram => some { b with mem := Memory.write b.mem a v }
  | .rom => some b
  | .fixed _ => some b
  | .functions => (Config.busWriteMemory b.own a v).map fun q => { b with own := q }
  | .fails => none

/-- The answer to a read of a port. -/
def Bus.answerPortRead (b : Bus) (p : Word) : ReadAnswer :=
  match b.portAnswer p with
  | .responses => some (b.portIn.headD Config.idlePortByte, { b with portIn := b.portIn.tail })
  | .fixed v => some (v, b)
  | .functions => (Config.busReadPort b.own p).map fun r => (r.1, { b with own := r.2 })
  | .fails => none

/-- The agent after a write of a port. -/
def Bus.answerPortWrite (b : Bus) (p : Word) (v : Byte) : Option Bus :=
  match b.portAnswer p with
  | .responses => some b
  | .fixed _ => some b
  | .functions => (Config.busWritePort b.own p v).map fun q => { b with own := q }
  | .fails => none

/-- A read, recorded as `ev`. After a failure the step has no next state, so the byte then does not matter. -/
def Bus.finishRead (b : Bus) (ev : Byte → BusEvent) (r : ReadAnswer) : Byte × Bus :=
  match r with
  | some (v, b1) => (v, { b1 with trace := ev v :: b1.trace })
  | none => (Config.idlePortByte, { b with failed := true, trace := ev Config.idlePortByte :: b.trace })

/-- A write, recorded as `ev`. -/
def Bus.finishWrite (b : Bus) (ev : BusEvent) (r : Option Bus) : Bus :=
  match r with
  | some b1 => { b1 with trace := ev :: b1.trace }
  | none => { b with failed := true, trace := ev :: b.trace }

/-- `ReadMemory` for an instruction byte: "an opcode fetch and a data read of the same address return the same byte". -/
def Bus.fetch (b : Bus) (a : Word) : Byte × Bus := b.finishRead (.fetch a) (b.answerRead a)

/-- `ReadMemory` for data. -/
def Bus.read (b : Bus) (a : Word) : Byte × Bus := b.finishRead (.memRead a) (b.answerRead a)

/-- `WriteMemory`. -/
def Bus.write (b : Bus) (a : Word) (v : Byte) : Bus := b.finishWrite (.memWrite a v) (b.answerWrite a v)

/-- `ReadPort`. -/
def Bus.readPort (b : Bus) (p : Word) : Byte × Bus := b.finishRead (.portRead p) (b.answerPortRead p)

/-- `WritePort`. -/
def Bus.writePort (b : Bus) (p : Word) (v : Byte) : Bus := b.finishWrite (.portWrite p v) (b.answerPortWrite p v)

/-! ## The core's access primitives (R73) -/

/-- The byte memory holds at an address, with no bus operation. -/
def State.peek (s : State) (a : Word) : Byte := s.bus.cell a

/-- `MemRead(a, 1)`. -/
def State.memRead (s : State) (a : Word) : Byte × State :=
  let m := s.bus.read a
  (m.1, { s with bus := m.2 })

/-- `MemWrite(a, 1, v)`. -/
def State.memWrite (s : State) (a : Word) (v : Byte) : State := { s with bus := s.bus.write a v }

/-- `MemRead(a, 2)`: the low byte at `a`, then the high byte at `a + 1` (R73, R74). -/
def State.memRead16 (s : State) (a : Word) : Word × State :=
  let lo := s.memRead a
  let hi := lo.2.memRead (a + 1)
  (mkWord hi.1 lo.1, hi.2)

/-- `MemWrite(a, 2, v)`: the low byte to `a`, then the high byte to `a + 1` (R73, R74). -/
def State.memWrite16 (s : State) (a v : Word) : State :=
  (s.memWrite a (loByte v)).memWrite (a + 1) (hiByte v)

/-- `PortRead(p)`. -/
def State.portRead (s : State) (p : Word) : Byte × State :=
  let m := s.bus.readPort p
  (m.1, { s with bus := m.2 })

/-- `PortWrite(p, v)`. -/
def State.portWrite (s : State) (p : Word) (v : Byte) : State := { s with bus := s.bus.writePort p v }

/-! ## Stack (R89) -/

/-- `push16(v)`: high byte first, at the higher address. -/
def State.push16 (s : State) (v : Word) : State :=
  let s1 := ({ s with sp := s.sp - 1 }).memWrite (s.sp - 1) (hiByte v)
  ({ s1 with sp := s1.sp - 1 }).memWrite (s1.sp - 1) (loByte v)

/-- `pop16()`: low byte first, from the lower address. -/
def State.pop16 (s : State) : Word × State :=
  let lo := s.memRead s.sp
  let s1 := { lo.2 with sp := s.sp + 1 }
  let hi := s1.memRead s1.sp
  (mkWord hi.1 lo.1, { hi.2 with sp := s1.sp + 1 })

/-! ## Clock and refresh -/

/-- Adds T-states to the count this step returns (R210). -/
def State.tick (n : Nat) (s : State) : State := { s with tStates := s.tStates + n }

/-- `(R and 0x80) or ((R + 1) and 0x7F)` (R27). -/
def bumpR (r : Byte) : Byte := (r &&& 0x80) ||| ((r + 1) &&& 0x7F)

/-! ## Entering a handler and returning from it (R156 to R163) -/

/-- What every acceptance does: leaves Halted, counts the acknowledge in R, saves PC on the stack, "matching a CALL's
stack discipline". -/
def State.enterHandler (s : State) : State :=
  ({ s with halted := false, r := bumpR s.r }).push16 s.pc

/-- Acceptance of a non-maskable interrupt (R156, R162). -/
def State.acceptNmi (s : State) : State :=
  let s1 := ({ s with nmiPending := false, eiDelay := false, iff1 := false }).enterHandler
  ({ s1 with pc := 0x0066 }).tick 11

/-- `d` is a restart instruction `11 ttt 111` (R158). -/
def isRestart (d : Byte) : Bool := d &&& 0xC7 == 0xC7

/-- Acceptance of a maskable interrupt with the device's byte `d`, by the interrupt mode (R157 to R160, R162). -/
def State.acceptInt (d : Byte) (s : State) : Result :=
  let s0 := { s with intPending := none, iff1 := false, iff2 := false }
  match s.im with
  | .im0 =>
    if isRestart d then
      let s1 := s0.enterHandler
      .next (({ s1 with pc := zext16 (d &&& 0x38) }).tick 13)
    else .refused (.mode0Byte d)
  | .im1 =>
    let s1 := s0.enterHandler
    .next (({ s1 with pc := 0x0038 }).tick 13)
  | .im2 =>
    let s1 := s0.enterHandler
    let target := s1.memRead16 (mkWord s.i d)
    .next (({ target.2 with pc := target.1 }).tick 19)

/-- Return from a handler: `pc <- pop16(); IFF1 <- IFF2` (R163, R481, R482). -/
def State.returnFromHandler (s : State) : State :=
  let r := s.pop16
  { r.2 with pc := r.1, iff1 := s.iff2 }

/-- The halted step (R161); `ei_delay` is cleared by the step itself. -/
def State.haltedStep (s : State) : State := ({ s with r := bumpR s.r }).tick 4

/-! ## The host's entry points, called between two steps (R36, R151, R152, R200) -/

/-- `RequestNonMaskableInterrupt()`. -/
def State.requestNmi (s : State) : State := { s with nmiPending := true }

/-- `RequestMaskableInterrupt(d)`. -/
def State.requestInt (d : Byte) (s : State) : State := { s with intPending := some d }

/-- `WithdrawMaskableInterrupt()`. -/
def State.withdrawInt (s : State) : State := { s with intPending := none }

/-- `Reset()`: every register of R40 as at power-on, with the same RESET_REGS each time (R201), and nothing of the bus
agent's (R200). -/
def State.resetCore (s : State) : State :=
  { State.powerOn s.resetRegs s.bus with freeCount := s.freeCount, tStates := s.tStates }

end Sys2Proof.Machine
end

