-- ==== Sys2Proof/Syntax.lean ====
section
/-!
DEFINITION. The instructions: one constructor per row of spec/opcode_table.json, in the table's order. Operands are
named as in the encodings of 30_encoding.md R103: `y`, `z` register codes, `p` pair codes, `c` condition, `b` bit
number, `t` restart selector, `n`, `nn`, `d`, `e` immediates, `ii` the index register, `x` don't-care bits (kept, so
that encoding loses no bit).
-/

namespace Sys2Proof

/-- 8-bit register codes `r[k]` (R104); code 110 is no register and has no name here. -/
inductive Reg8 where
  | b | c | d | e | h | l | a
deriving DecidableEq, Repr

/-- 8-bit register codes `p[k]` under a DD or FD byte (R104, R108): `h`, `l` replaced by the index halves. -/
inductive PReg where
  | b | c | d | e | iiH | iiL | a
deriving DecidableEq, Repr

/-- IX (0xDD) or IY (0xFD) (R23, R108). -/
inductive IndexReg where
  | ix | iy
deriving DecidableEq, Repr

/-- Pair codes `rp[p]` of loads and 16-bit arithmetic (R105). -/
inductive RP where
  | bc | de | hl | sp
deriving DecidableEq, Repr

/-- Pair codes `rp2[p]` of `PUSH` and `POP` (R105). -/
inductive RP2 where
  | bc | de | hl | af
deriving DecidableEq, Repr

/-- Pair codes `rpi[p]` of `ADD ii,pp` (R105). -/
inductive RPI where
  | bc | de | ii | sp
deriving DecidableEq, Repr

/-- Condition codes `cc[c]` (R106). -/
inductive Cond where
  | nz | z | nc | c | po | pe | p | m
deriving DecidableEq, Repr

/-- The instructions of spec/opcode_table.json. -/
inductive Instr where
  /-- `LD r,r'` (R300), table BASE, `01yyyzzz`. -/
  | ldRR (y z : Reg8)
  /-- `LD r,n` (R301), table BASE, `00yyy110 nnnnnnnn`. -/
  | ldRN (y : Reg8) (n : Byte)
  /-- `LD r,(HL)` (R302), table BASE, `01yyy110`. -/
  | ldRAtHL (y : Reg8)
  /-- `LD (HL),r` (R303), table BASE, `01110zzz`. -/
  | ldAtHLR (z : Reg8)
  /-- `LD (HL),n` (R304), table BASE, `00110110 nnnnnnnn`. -/
  | ldAtHLN (n : Byte)
  /-- `LD A,(BC)` (R305), table BASE, `00001010`. -/
  | ldAAtBC
  /-- `LD A,(DE)` (R306), table BASE, `00011010`. -/
  | ldAAtDE
  /-- `LD A,(nn)` (R307), table BASE, `00111010 llllllll hhhhhhhh`. -/
  | ldAAtNn (nn : Word)
  /-- `LD (BC),A` (R308), table BASE, `00000010`. -/
  | ldAtBCA
  /-- `LD (DE),A` (R309), table BASE, `00010010`. -/
  | ldAtDEA
  /-- `LD (nn),A` (R310), table BASE, `00110010 llllllll hhhhhhhh`. -/
  | ldAtNnA (nn : Word)
  /-- `LD I,A` (R311), table ED, `11101101 01000111`. -/
  | ldIA
  /-- `LD R,A` (R312), table ED, `11101101 01001111`. -/
  | ldRA
  /-- `LD A,I` (R313), table ED, `11101101 01010111`. -/
  | ldAI
  /-- `LD A,R` (R314), table ED, `11101101 01011111`. -/
  | ldAR
  /-- `LD r,(ii+d)` (R315), table XY, `11i11101 01yyy110 dddddddd`. -/
  | ldRIdx (ii : IndexReg) (y : Reg8) (d : Byte)
  /-- `LD (ii+d),r` (R316), table XY, `11i11101 01110zzz dddddddd`. -/
  | ldIdxR (ii : IndexReg) (z : Reg8) (d : Byte)
  /-- `LD (ii+d),n` (R317), table XY, `11i11101 00110110 dddddddd nnnnnnnn`. -/
  | ldIdxN (ii : IndexReg) (d n : Byte)
  /-- `LD p,p'` (R318), table XY, `11i11101 01yyyzzz`. -/
  | ldPP (ii : IndexReg) (y z : PReg)
  /-- `LD p,n` (R319), table XY, `11i11101 00yyy110 nnnnnnnn`. -/
  | ldPN (ii : IndexReg) (y : PReg) (n : Byte)
  /-- `LD dd,nn` (R320), table BASE, `00pp0001 llllllll hhhhhhhh`. -/
  | ldDdNn (p : RP) (nn : Word)
  /-- `LD HL,(nn)` (R321), table BASE, `00101010 llllllll hhhhhhhh`. -/
  | ldHLAtNn (nn : Word)
  /-- `LD (nn),HL` (R322), table BASE, `00100010 llllllll hhhhhhhh`. -/
  | ldAtNnHL (nn : Word)
  /-- `LD dd,(nn)` (R323), table ED, `11101101 01pp1011 llllllll hhhhhhhh`. -/
  | ldDdAtNn (p : RP) (nn : Word)
  /-- `LD (nn),dd` (R324), table ED, `11101101 01pp0011 llllllll hhhhhhhh`. -/
  | ldAtNnDd (p : RP) (nn : Word)
  /-- `LD SP,HL` (R325), table BASE, `11111001`. -/
  | ldSPHL
  /-- `PUSH qq` (R326), table BASE, `11pp0101`. -/
  | pushQq (p : RP2)
  /-- `POP qq` (R327), table BASE, `11pp0001`. -/
  | popQq (p : RP2)
  /-- `EX DE,HL` (R328), table BASE, `11101011`. -/
  | exDEHL
  /-- `EX AF,AF'` (R329), table BASE, `00001000`. -/
  | exAFAF
  /-- `EXX` (R330), table BASE, `11011001`. -/
  | exx
  /-- `EX (SP),HL` (R331), table BASE, `11100011`. -/
  | exAtSPHL
  /-- `LD ii,nn` (R332), table XY, `11i11101 00100001 llllllll hhhhhhhh`. -/
  | ldIiNn (ii : IndexReg) (nn : Word)
  /-- `LD ii,(nn)` (R333), table XY, `11i11101 00101010 llllllll hhhhhhhh`. -/
  | ldIiAtNn (ii : IndexReg) (nn : Word)
  /-- `LD (nn),ii` (R334), table XY, `11i11101 00100010 llllllll hhhhhhhh`. -/
  | ldAtNnIi (ii : IndexReg) (nn : Word)
  /-- `LD SP,ii` (R335), table XY, `11i11101 11111001`. -/
  | ldSPIi (ii : IndexReg)
  /-- `PUSH ii` (R336), table XY, `11i11101 11100101`. -/
  | pushIi (ii : IndexReg)
  /-- `POP ii` (R337), table XY, `11i11101 11100001`. -/
  | popIi (ii : IndexReg)
  /-- `EX (SP),ii` (R338), table XY, `11i11101 11100011`. -/
  | exAtSPIi (ii : IndexReg)
  /-- `ADD A,r` (R347), table BASE, `10000zzz`. -/
  | addR (z : Reg8)
  /-- `ADD A,n` (R348), table BASE, `11000110 nnnnnnnn`. -/
  | addN (n : Byte)
  /-- `ADD A,(HL)` (R349), table BASE, `10000110`. -/
  | addAtHL
  /-- `ADD A,(ii+d)` (R350), table XY, `11i11101 10000110 dddddddd`. -/
  | addIdx (ii : IndexReg) (d : Byte)
  /-- `ADD A,p` (R351), table XY, `11i11101 10000zzz`. -/
  | addP (ii : IndexReg) (z : PReg)
  /-- `ADC A,r` (R352), table BASE, `10001zzz`. -/
  | adcR (z : Reg8)
  /-- `ADC A,n` (R353), table BASE, `11001110 nnnnnnnn`. -/
  | adcN (n : Byte)
  /-- `ADC A,(HL)` (R354), table BASE, `10001110`. -/
  | adcAtHL
  /-- `ADC A,(ii+d)` (R355), table XY, `11i11101 10001110 dddddddd`. -/
  | adcIdx (ii : IndexReg) (d : Byte)
  /-- `ADC A,p` (R356), table XY, `11i11101 10001zzz`. -/
  | adcP (ii : IndexReg) (z : PReg)
  /-- `SUB r` (R357), table BASE, `10010zzz`. -/
  | subR (z : Reg8)
  /-- `SUB n` (R358), table BASE, `11010110 nnnnnnnn`. -/
  | subN (n : Byte)
  /-- `SUB (HL)` (R359), table BASE, `10010110`. -/
  | subAtHL
  /-- `SUB (ii+d)` (R360), table XY, `11i11101 10010110 dddddddd`. -/
  | subIdx (ii : IndexReg) (d : Byte)
  /-- `SUB p` (R361), table XY, `11i11101 10010zzz`. -/
  | subP (ii : IndexReg) (z : PReg)
  /-- `SBC A,r` (R362), table BASE, `10011zzz`. -/
  | sbcR (z : Reg8)
  /-- `SBC A,n` (R363), table BASE, `11011110 nnnnnnnn`. -/
  | sbcN (n : Byte)
  /-- `SBC A,(HL)` (R364), table BASE, `10011110`. -/
  | sbcAtHL
  /-- `SBC A,(ii+d)` (R365), table XY, `11i11101 10011110 dddddddd`. -/
  | sbcIdx (ii : IndexReg) (d : Byte)
  /-- `SBC A,p` (R366), table XY, `11i11101 10011zzz`. -/
  | sbcP (ii : IndexReg) (z : PReg)
  /-- `AND r` (R367), table BASE, `10100zzz`. -/
  | andR (z : Reg8)
  /-- `AND n` (R368), table BASE, `11100110 nnnnnnnn`. -/
  | andN (n : Byte)
  /-- `AND (HL)` (R369), table BASE, `10100110`. -/
  | andAtHL
  /-- `AND (ii+d)` (R370), table XY, `11i11101 10100110 dddddddd`. -/
  | andIdx (ii : IndexReg) (d : Byte)
  /-- `AND p` (R371), table XY, `11i11101 10100zzz`. -/
  | andP (ii : IndexReg) (z : PReg)
  /-- `XOR r` (R372), table BASE, `10101zzz`. -/
  | xorR (z : Reg8)
  /-- `XOR n` (R373), table BASE, `11101110 nnnnnnnn`. -/
  | xorN (n : Byte)
  /-- `XOR (HL)` (R374), table BASE, `10101110`. -/
  | xorAtHL
  /-- `XOR (ii+d)` (R375), table XY, `11i11101 10101110 dddddddd`. -/
  | xorIdx (ii : IndexReg) (d : Byte)
  /-- `XOR p` (R376), table XY, `11i11101 10101zzz`. -/
  | xorP (ii : IndexReg) (z : PReg)
  /-- `OR r` (R377), table BASE, `10110zzz`. -/
  | orR (z : Reg8)
  /-- `OR n` (R378), table BASE, `11110110 nnnnnnnn`. -/
  | orN (n : Byte)
  /-- `OR (HL)` (R379), table BASE, `10110110`. -/
  | orAtHL
  /-- `OR (ii+d)` (R380), table XY, `11i11101 10110110 dddddddd`. -/
  | orIdx (ii : IndexReg) (d : Byte)
  /-- `OR p` (R381), table XY, `11i11101 10110zzz`. -/
  | orP (ii : IndexReg) (z : PReg)
  /-- `CP r` (R382), table BASE, `10111zzz`. -/
  | cpR (z : Reg8)
  /-- `CP n` (R383), table BASE, `11111110 nnnnnnnn`. -/
  | cpN (n : Byte)
  /-- `CP (HL)` (R384), table BASE, `10111110`. -/
  | cpAtHL
  /-- `CP (ii+d)` (R385), table XY, `11i11101 10111110 dddddddd`. -/
  | cpIdx (ii : IndexReg) (d : Byte)
  /-- `CP p` (R386), table XY, `11i11101 10111zzz`. -/
  | cpP (ii : IndexReg) (z : PReg)
  /-- `INC r` (R387), table BASE, `00yyy100`. -/
  | incR (y : Reg8)
  /-- `INC (HL)` (R388), table BASE, `00110100`. -/
  | incAtHL
  /-- `DEC r` (R389), table BASE, `00yyy101`. -/
  | decR (y : Reg8)
  /-- `DEC (HL)` (R390), table BASE, `00110101`. -/
  | decAtHL
  /-- `INC p` (R391), table XY, `11i11101 00yyy100`. -/
  | incP (ii : IndexReg) (y : PReg)
  /-- `DEC p` (R392), table XY, `11i11101 00yyy101`. -/
  | decP (ii : IndexReg) (y : PReg)
  /-- `INC (ii+d)` (R393), table XY, `11i11101 00110100 dddddddd`. -/
  | incIdx (ii : IndexReg) (d : Byte)
  /-- `DEC (ii+d)` (R394), table XY, `11i11101 00110101 dddddddd`. -/
  | decIdx (ii : IndexReg) (d : Byte)
  /-- `DAA` (R395), table BASE, `00100111`. -/
  | daa
  /-- `CPL` (R396), table BASE, `00101111`. -/
  | cpl
  /-- `NEG` (R397), table ED, `11101101 01xxx100`. -/
  | neg (x : BitVec 3)
  /-- `SCF` (R398), table BASE, `00110111`. -/
  | scf
  /-- `CCF` (R399), table BASE, `00111111`. -/
  | ccf
  /-- `ADD HL,ss` (R402), table BASE, `00pp1001`. -/
  | addHLSs (p : RP)
  /-- `ADC HL,ss` (R403), table ED, `11101101 01pp1010`. -/
  | adcHLSs (p : RP)
  /-- `SBC HL,ss` (R404), table ED, `11101101 01pp0010`. -/
  | sbcHLSs (p : RP)
  /-- `INC ss` (R405), table BASE, `00pp0011`. -/
  | incSs (p : RP)
  /-- `DEC ss` (R406), table BASE, `00pp1011`. -/
  | decSs (p : RP)
  /-- `ADD ii,pp` (R407), table XY, `11i11101 00pp1001`. -/
  | addIiPp (ii : IndexReg) (p : RPI)
  /-- `INC ii` (R408), table XY, `11i11101 00100011`. -/
  | incIi (ii : IndexReg)
  /-- `DEC ii` (R409), table XY, `11i11101 00101011`. -/
  | decIi (ii : IndexReg)
  /-- `RLCA` (R412), table BASE, `00000111`. -/
  | rlca
  /-- `RRCA` (R413), table BASE, `00001111`. -/
  | rrca
  /-- `RLA` (R414), table BASE, `00010111`. -/
  | rla
  /-- `RRA` (R415), table BASE, `00011111`. -/
  | rra
  /-- `RLC r` (R416), table CB, `11001011 00000zzz`. -/
  | rlcR (z : Reg8)
  /-- `RLC (HL)` (R417), table CB, `11001011 00000110`. -/
  | rlcAtHL
  /-- `RRC r` (R418), table CB, `11001011 00001zzz`. -/
  | rrcR (z : Reg8)
  /-- `RRC (HL)` (R419), table CB, `11001011 00001110`. -/
  | rrcAtHL
  /-- `RL r` (R420), table CB, `11001011 00010zzz`. -/
  | rlR (z : Reg8)
  /-- `RL (HL)` (R421), table CB, `11001011 00010110`. -/
  | rlAtHL
  /-- `RR r` (R422), table CB, `11001011 00011zzz`. -/
  | rrR (z : Reg8)
  /-- `RR (HL)` (R423), table CB, `11001011 00011110`. -/
  | rrAtHL
  /-- `SLA r` (R424), table CB, `11001011 00100zzz`. -/
  | slaR (z : Reg8)
  /-- `SLA (HL)` (R425), table CB, `11001011 00100110`. -/
  | slaAtHL
  /-- `SRA r` (R426), table CB, `11001011 00101zzz`. -/
  | sraR (z : Reg8)
  /-- `SRA (HL)` (R427), table CB, `11001011 00101110`. -/
  | sraAtHL
  /-- `SLL r` (R428), table CB, `11001011 00110zzz`. -/
  | sllR (z : Reg8)
  /-- `SLL (HL)` (R429), table CB, `11001011 00110110`. -/
  | sllAtHL
  /-- `SRL r` (R430), table CB, `11001011 00111zzz`. -/
  | srlR (z : Reg8)
  /-- `SRL (HL)` (R431), table CB, `11001011 00111110`. -/
  | srlAtHL
  /-- `BIT b,r` (R432), table CB, `11001011 01bbbzzz`. -/
  | bitR (b : BitVec 3) (z : Reg8)
  /-- `BIT b,(HL)` (R433), table CB, `11001011 01bbb110`. -/
  | bitAtHL (b : BitVec 3)
  /-- `SET b,r` (R434), table CB, `11001011 11bbbzzz`. -/
  | setR (b : BitVec 3) (z : Reg8)
  /-- `SET b,(HL)` (R435), table CB, `11001011 11bbb110`. -/
  | setAtHL (b : BitVec 3)
  /-- `RES b,r` (R436), table CB, `11001011 10bbbzzz`. -/
  | resR (b : BitVec 3) (z : Reg8)
  /-- `RES b,(HL)` (R437), table CB, `11001011 10bbb110`. -/
  | resAtHL (b : BitVec 3)
  /-- `RLD` (R438), table ED, `11101101 01101111`. -/
  | rld
  /-- `RRD` (R439), table ED, `11101101 01100111`. -/
  | rrd
  /-- `RLC (ii+d)` (R440), table XYCB, `11i11101 11001011 dddddddd 00000110`. -/
  | rlcIdx (ii : IndexReg) (d : Byte)
  /-- `RLC (ii+d),r` (R441), table XYCB, `11i11101 11001011 dddddddd 00000zzz`. -/
  | rlcIdxR (ii : IndexReg) (d : Byte) (z : Reg8)
  /-- `RRC (ii+d)` (R442), table XYCB, `11i11101 11001011 dddddddd 00001110`. -/
  | rrcIdx (ii : IndexReg) (d : Byte)
  /-- `RRC (ii+d),r` (R443), table XYCB, `11i11101 11001011 dddddddd 00001zzz`. -/
  | rrcIdxR (ii : IndexReg) (d : Byte) (z : Reg8)
  /-- `RL (ii+d)` (R444), table XYCB, `11i11101 11001011 dddddddd 00010110`. -/
  | rlIdx (ii : IndexReg) (d : Byte)
  /-- `RL (ii+d),r` (R445), table XYCB, `11i11101 11001011 dddddddd 00010zzz`. -/
  | rlIdxR (ii : IndexReg) (d : Byte) (z : Reg8)
  /-- `RR (ii+d)` (R446), table XYCB, `11i11101 11001011 dddddddd 00011110`. -/
  | rrIdx (ii : IndexReg) (d : Byte)
  /-- `RR (ii+d),r` (R447), table XYCB, `11i11101 11001011 dddddddd 00011zzz`. -/
  | rrIdxR (ii : IndexReg) (d : Byte) (z : Reg8)
  /-- `SLA (ii+d)` (R448), table XYCB, `11i11101 11001011 dddddddd 00100110`. -/
  | slaIdx (ii : IndexReg) (d : Byte)
  /-- `SLA (ii+d),r` (R449), table XYCB, `11i11101 11001011 dddddddd 00100zzz`. -/
  | slaIdxR (ii : IndexReg) (d : Byte) (z : Reg8)
  /-- `SRA (ii+d)` (R450), table XYCB, `11i11101 11001011 dddddddd 00101110`. -/
  | sraIdx (ii : IndexReg) (d : Byte)
  /-- `SRA (ii+d),r` (R451), table XYCB, `11i11101 11001011 dddddddd 00101zzz`. -/
  | sraIdxR (ii : IndexReg) (d : Byte) (z : Reg8)
  /-- `SLL (ii+d)` (R452), table XYCB, `11i11101 11001011 dddddddd 00110110`. -/
  | sllIdx (ii : IndexReg) (d : Byte)
  /-- `SLL (ii+d),r` (R453), table XYCB, `11i11101 11001011 dddddddd 00110zzz`. -/
  | sllIdxR (ii : IndexReg) (d : Byte) (z : Reg8)
  /-- `SRL (ii+d)` (R454), table XYCB, `11i11101 11001011 dddddddd 00111110`. -/
  | srlIdx (ii : IndexReg) (d : Byte)
  /-- `SRL (ii+d),r` (R455), table XYCB, `11i11101 11001011 dddddddd 00111zzz`. -/
  | srlIdxR (ii : IndexReg) (d : Byte) (z : Reg8)
  /-- `BIT b,(ii+d)` (R456), table XYCB, `11i11101 11001011 dddddddd 01bbbxxx`. -/
  | bitIdx (ii : IndexReg) (d : Byte) (b x : BitVec 3)
  /-- `SET b,(ii+d)` (R457), table XYCB, `11i11101 11001011 dddddddd 11bbb110`. -/
  | setIdx (ii : IndexReg) (d : Byte) (b : BitVec 3)
  /-- `SET b,(ii+d),r` (R458), table XYCB, `11i11101 11001011 dddddddd 11bbbzzz`. -/
  | setIdxR (ii : IndexReg) (d : Byte) (b : BitVec 3) (z : Reg8)
  /-- `RES b,(ii+d)` (R459), table XYCB, `11i11101 11001011 dddddddd 10bbb110`. -/
  | resIdx (ii : IndexReg) (d : Byte) (b : BitVec 3)
  /-- `RES b,(ii+d),r` (R460), table XYCB, `11i11101 11001011 dddddddd 10bbbzzz`. -/
  | resIdxR (ii : IndexReg) (d : Byte) (b : BitVec 3) (z : Reg8)
  /-- `JP nn` (R470), table BASE, `11000011 llllllll hhhhhhhh`. -/
  | jpNn (nn : Word)
  /-- `JP cc,nn` (R471), table BASE, `11ccc010 llllllll hhhhhhhh`. -/
  | jpCcNn (cc : Cond) (nn : Word)
  /-- `JR e` (R472), table BASE, `00011000 eeeeeeee`. -/
  | jrE (e : Byte)
  /-- `JR cc,e` (R473), table BASE, `001cc000 eeeeeeee`. -/
  | jrCcE (cc : Cond) (e : Byte)
  /-- `JP (HL)` (R474), table BASE, `11101001`. -/
  | jpHL
  /-- `JP (ii)` (R475), table XY, `11i11101 11101001`. -/
  | jpIi (ii : IndexReg)
  /-- `DJNZ e` (R476), table BASE, `00010000 eeeeeeee`. -/
  | djnzE (e : Byte)
  /-- `CALL nn` (R477), table BASE, `11001101 llllllll hhhhhhhh`. -/
  | callNn (nn : Word)
  /-- `CALL cc,nn` (R478), table BASE, `11ccc100 llllllll hhhhhhhh`. -/
  | callCcNn (cc : Cond) (nn : Word)
  /-- `RET` (R479), table BASE, `11001001`. -/
  | ret
  /-- `RET cc` (R480), table BASE, `11ccc000`. -/
  | retCc (cc : Cond)
  /-- `RETI` (R481), table ED, `11101101 01001101`. -/
  | reti
  /-- `RETN` (R482), table ED, `11101101 01xxx101`. -/
  | retn (x : BitVec 3)
  /-- `RST p` (R483), table BASE, `11ttt111`. -/
  | rstP (t : BitVec 3)
  /-- `LDI` (R490), table ED, `11101101 10100000`. -/
  | ldi
  /-- `LDIR` (R491), table ED, `11101101 10110000`. -/
  | ldir
  /-- `LDD` (R492), table ED, `11101101 10101000`. -/
  | ldd
  /-- `LDDR` (R493), table ED, `11101101 10111000`. -/
  | lddr
  /-- `CPI` (R494), table ED, `11101101 10100001`. -/
  | cpi
  /-- `CPIR` (R495), table ED, `11101101 10110001`. -/
  | cpir
  /-- `CPD` (R496), table ED, `11101101 10101001`. -/
  | cpd
  /-- `CPDR` (R497), table ED, `11101101 10111001`. -/
  | cpdr
  /-- `IN A,(n)` (R500), table BASE, `11011011 nnnnnnnn`. -/
  | inAN (n : Byte)
  /-- `IN r,(C)` (R501), table ED, `11101101 01yyy000`. -/
  | inRC (y : Reg8)
  /-- `IN (C)` (R502), table ED, `11101101 01110000`. -/
  | inC
  /-- `OUT (n),A` (R503), table BASE, `11010011 nnnnnnnn`. -/
  | outNA (n : Byte)
  /-- `OUT (C),r` (R504), table ED, `11101101 01yyy001`. -/
  | outCR (y : Reg8)
  /-- `OUT (C),0` (R505), table ED, `11101101 01110001`. -/
  | outC0
  /-- `INI` (R506), table ED, `11101101 10100010`. -/
  | ini
  /-- `INIR` (R507), table ED, `11101101 10110010`. -/
  | inir
  /-- `IND` (R508), table ED, `11101101 10101010`. -/
  | ind
  /-- `INDR` (R509), table ED, `11101101 10111010`. -/
  | indr
  /-- `OUTI` (R510), table ED, `11101101 10100011`. -/
  | outi
  /-- `OTIR` (R511), table ED, `11101101 10110011`. -/
  | otir
  /-- `OUTD` (R512), table ED, `11101101 10101011`. -/
  | outd
  /-- `OTDR` (R513), table ED, `11101101 10111011`. -/
  | otdr
  /-- `NOP` (R520), table BASE, `00000000`. -/
  | nop
  /-- `HALT` (R521), table BASE, `01110110`. -/
  | halt
  /-- `DI` (R522), table BASE, `11110011`. -/
  | di
  /-- `EI` (R523), table BASE, `11111011`. -/
  | ei
  /-- `IM 0` (R524), table ED, `11101101 01x0x110`. -/
  | im0 (x5 x3 : Bool)
  /-- `IM 1` (R525), table ED, `11101101 01x10110`. -/
  | im1 (x5 : Bool)
  /-- `IM 2` (R526), table ED, `11101101 01x11110`. -/
  | im2 (x5 : Bool)
  /-- `prefix CB` (R527), table BASE, `11001011`. -/
  | prefixCB
  /-- `prefix ED` (R528), table BASE, `11101101`. -/
  | prefixED
  /-- `prefix DD/FD` (R529), table BASE, `11i11101`. -/
  | prefixXY (ii : IndexReg)
  /-- `ED-NOP` (R530), table ED, `11101101 xxxxxxxx`. -/
  | edNop (x : Byte)
  /-- `XY-FALLBACK` (R531), table XY, `11i11101 xxxxxxxx`. -/
  | xyFallback (ii : IndexReg) (base : Instr)
deriving DecidableEq, Repr

end Sys2Proof
end

