-- ==== Sys2Proof/Machine/Operands.lean ====
section
/-!
DEFINITION. Every operand form: registers, the pair views (10_state.md R21 to R24), the selectors `r`, `p`, `rp`,
`rp2`, `rpi`, `cc` (30_encoding.md R104 to R106), the effective address `ii + d` (R108), and the read, test and
modify forms that the instruction families share.
-/

namespace Sys2Proof.Machine

/-! ## Pair views (R21) -/

def State.af (s : State) : Word := mkWord s.a s.f
def State.bc (s : State) : Word := mkWord s.b s.c
def State.de (s : State) : Word := mkWord s.d s.e
def State.hl (s : State) : Word := mkWord s.h s.l

def State.setAF (s : State) (v : Word) : State := { s with a := hiByte v, f := loByte v }
def State.setBC (s : State) (v : Word) : State := { s with b := hiByte v, c := loByte v }
def State.setDE (s : State) (v : Word) : State := { s with d := hiByte v, e := loByte v }
def State.setHL (s : State) (v : Word) : State := { s with h := hiByte v, l := loByte v }

/-- A result and a flag byte into A and F. -/
def State.putAF (s : State) (r : Byte × Byte) : State := { s with a := r.1, f := r.2 }

/-- A flag byte into F. -/
def State.setF (s : State) (f : Byte) : State := { s with f := f }

/-! ## Index registers (R23) -/

def State.index (s : State) : IndexReg → Word
  | .ix => s.ix
  | .iy => s.iy

def State.setIndex (s : State) (ii : IndexReg) (v : Word) : State :=
  match ii with
  | .ix => { s with ix := v }
  | .iy => { s with iy := v }

/-- `ea = ii + sext_16(d)` modulo 2^16 (R108). -/
def State.ea (s : State) (ii : IndexReg) (d : Byte) : Word := s.index ii + sext16 d

/-! ## Selectors (R104, R105) -/

/-- `r[k]`. -/
def State.getR (s : State) : Reg8 → Byte
  | .b => s.b | .c => s.c | .d => s.d | .e => s.e | .h => s.h | .l => s.l | .a => s.a

/-- `r[k] <- v`. -/
def State.setR (s : State) (k : Reg8) (v : Byte) : State :=
  match k with
  | .b => { s with b := v }
  | .c => { s with c := v }
  | .d => { s with d := v }
  | .e => { s with e := v }
  | .h => { s with h := v }
  | .l => { s with l := v }
  | .a => { s with a := v }

/-- `p[k]`: H and L are the halves of the index register (R108). -/
def State.getP (s : State) (ii : IndexReg) : PReg → Byte
  | .b => s.b | .c => s.c | .d => s.d | .e => s.e
  | .iiH => hiByte (s.index ii) | .iiL => loByte (s.index ii)
  | .a => s.a

/-- `p[k] <- v`: writing a half leaves the other half (R23, R42). -/
def State.setP (s : State) (ii : IndexReg) (k : PReg) (v : Byte) : State :=
  match k with
  | .b => { s with b := v }
  | .c => { s with c := v }
  | .d => { s with d := v }
  | .e => { s with e := v }
  | .iiH => s.setIndex ii (mkWord v (loByte (s.index ii)))
  | .iiL => s.setIndex ii (mkWord (hiByte (s.index ii)) v)
  | .a => { s with a := v }

/-- `rp[p]`. -/
def State.getRP (s : State) : RP → Word
  | .bc => s.bc | .de => s.de | .hl => s.hl | .sp => s.sp

/-- `rp[p] <- v`. -/
def State.setRP (s : State) (p : RP) (v : Word) : State :=
  match p with
  | .bc => s.setBC v
  | .de => s.setDE v
  | .hl => s.setHL v
  | .sp => { s with sp := v }

/-- `rp2[p]`. -/
def State.getRP2 (s : State) : RP2 → Word
  | .bc => s.bc | .de => s.de | .hl => s.hl | .af => s.af

/-- `rp2[p] <- v`. -/
def State.setRP2 (s : State) (p : RP2) (v : Word) : State :=
  match p with
  | .bc => s.setBC v
  | .de => s.setDE v
  | .hl => s.setHL v
  | .af => s.setAF v

/-- `rpi[p]`. -/
def State.getRPI (s : State) (ii : IndexReg) : RPI → Word
  | .bc => s.bc | .de => s.de | .ii => s.index ii | .sp => s.sp

/-! ## Conditions (R106) -/

/-- The carry flag `F[0]`. -/
def State.carry (s : State) : Bool := bitOf s.f 0

/-- `cc[c]`. -/
def State.cond (s : State) : Cond → Bool
  | .nz => !bitOf s.f 6 | .z => bitOf s.f 6
  | .nc => !bitOf s.f 0 | .c => bitOf s.f 0
  | .po => !bitOf s.f 2 | .pe => bitOf s.f 2
  | .p => !bitOf s.f 7 | .m => bitOf s.f 7

/-! ## Accumulator operations on an operand byte (R347 to R386) -/

def State.addA (v : Byte) (s : State) : State := s.putAF (add8 s.a v false)
def State.adcA (v : Byte) (s : State) : State := s.putAF (add8 s.a v s.carry)
def State.subA (v : Byte) (s : State) : State := s.putAF (sub8 s.a v false)
def State.sbcA (v : Byte) (s : State) : State := s.putAF (sub8 s.a v s.carry)
def State.andA (v : Byte) (s : State) : State := s.putAF (and8 s.a v)
def State.xorA (v : Byte) (s : State) : State := s.putAF (xor8 s.a v)
def State.orA (v : Byte) (s : State) : State := s.putAF (or8 s.a v)
def State.cpA (v : Byte) (s : State) : State := s.setF (cp8 s.a v)

/-! ## Modify forms: `g v F` is the result and the flags -/

/-- `(r[k], F) <- g(r[k], F)`. -/
def State.modifyR (k : Reg8) (g : Byte → Byte → Byte × Byte) (s : State) : State :=
  let r := g (s.getR k) s.f
  (s.setF r.2).setR k r.1

/-- `(p[k], F) <- g(p[k], F)`. -/
def State.modifyP (ii : IndexReg) (k : PReg) (g : Byte → Byte → Byte × Byte) (s : State) : State :=
  let r := g (s.getP ii k) s.f
  (s.setF r.2).setP ii k r.1

/-- `v <- MemRead(a); (res, F) <- g(v, F); MemWrite(a, res)`; answers `res` too. -/
def State.modifyAt (a : Word) (g : Byte → Byte → Byte × Byte) (s : State) : Byte × State :=
  let v := s.memRead a
  let r := g v.1 s.f
  (r.1, (v.2.setF r.2).memWrite a r.1)

/-- A modification that leaves F alone (`SET`, `RES`). -/
def keepF (g : Byte → Byte) (v f : Byte) : Byte × Byte := (g v, f)

end Sys2Proof.Machine
end

