-- ==== Sys2Proof/Machine/Alu16.lean ====
section
/-!
DEFINITION. Meanings of 16-bit arithmetic (43_alu16.md R402 to R409). The state is that after the fetch: PC past
the instruction, R advanced; each meaning adds the T-states of its row.
-/

namespace Sys2Proof.Machine

/-- `ADD HL,ss` (R402). -/
def execAddHLSs (p : RP) (s : State) : Result :=
  let r := add16 s.hl (s.getRP p) s.f
  .next (((s.setHL r.1).setF r.2).tick 11)

/-- `ADC HL,ss` (R403). -/
def execAdcHLSs (p : RP) (s : State) : Result :=
  let r := adc16 s.hl (s.getRP p) s.carry
  .next (((s.setHL r.1).setF r.2).tick 15)

/-- `SBC HL,ss` (R404). -/
def execSbcHLSs (p : RP) (s : State) : Result :=
  let r := sbc16 s.hl (s.getRP p) s.carry
  .next (((s.setHL r.1).setF r.2).tick 15)

/-- `INC ss` (R405). -/
def execIncSs (p : RP) (s : State) : Result :=
  .next ((s.setRP p (s.getRP p + 1)).tick 6)

/-- `DEC ss` (R406). -/
def execDecSs (p : RP) (s : State) : Result :=
  .next ((s.setRP p (s.getRP p - 1)).tick 6)

/-- `ADD ii,pp` (R407). -/
def execAddIiPp (ii : IndexReg) (p : RPI) (s : State) : Result :=
  let r := add16 (s.index ii) (s.getRPI ii p) s.f
  .next (((s.setIndex ii r.1).setF r.2).tick 15)

/-- `INC ii` (R408). -/
def execIncIi (ii : IndexReg) (s : State) : Result :=
  .next ((s.setIndex ii (s.index ii + 1)).tick 10)

/-- `DEC ii` (R409). -/
def execDecIi (ii : IndexReg) (s : State) : Result :=
  .next ((s.setIndex ii (s.index ii - 1)).tick 10)

end Sys2Proof.Machine
end

