-- ==== Sys2Proof/Machine/Alu8.lean ====
section
/-!
DEFINITION. Meanings of 8-bit arithmetic and logic (42_alu8.md R347 to R399). The state is that after the fetch: PC past
the instruction, R advanced; each meaning adds the T-states of its row.
-/

namespace Sys2Proof.Machine

/-- `ADD A,r` (R347). -/
def execAddR (z : Reg8) (s : State) : Result :=
  .next ((s.addA (s.getR z)).tick 4)

/-- `ADD A,n` (R348). -/
def execAddN (n : Byte) (s : State) : Result :=
  .next ((s.addA n).tick 7)

/-- `ADD A,(HL)` (R349). -/
def execAddAtHL (s : State) : Result :=
  let v := s.memRead s.hl
  .next ((v.2.addA v.1).tick 7)

/-- `ADD A,(ii+d)` (R350). -/
def execAddIdx (ii : IndexReg) (d : Byte) (s : State) : Result :=
  let v := s.memRead (s.ea ii d)
  .next ((v.2.addA v.1).tick 19)

/-- `ADD A,p` (R351). -/
def execAddP (ii : IndexReg) (z : PReg) (s : State) : Result :=
  .next ((s.addA (s.getP ii z)).tick 8)

/-- `ADC A,r` (R352). -/
def execAdcR (z : Reg8) (s : State) : Result :=
  .next ((s.adcA (s.getR z)).tick 4)

/-- `ADC A,n` (R353). -/
def execAdcN (n : Byte) (s : State) : Result :=
  .next ((s.adcA n).tick 7)

/-- `ADC A,(HL)` (R354). -/
def execAdcAtHL (s : State) : Result :=
  let v := s.memRead s.hl
  .next ((v.2.adcA v.1).tick 7)

/-- `ADC A,(ii+d)` (R355). -/
def execAdcIdx (ii : IndexReg) (d : Byte) (s : State) : Result :=
  let v := s.memRead (s.ea ii d)
  .next ((v.2.adcA v.1).tick 19)

/-- `ADC A,p` (R356). -/
def execAdcP (ii : IndexReg) (z : PReg) (s : State) : Result :=
  .next ((s.adcA (s.getP ii z)).tick 8)

/-- `SUB r` (R357). -/
def execSubR (z : Reg8) (s : State) : Result :=
  .next ((s.subA (s.getR z)).tick 4)

/-- `SUB n` (R358). -/
def execSubN (n : Byte) (s : State) : Result :=
  .next ((s.subA n).tick 7)

/-- `SUB (HL)` (R359). -/
def execSubAtHL (s : State) : Result :=
  let v := s.memRead s.hl
  .next ((v.2.subA v.1).tick 7)

/-- `SUB (ii+d)` (R360). -/
def execSubIdx (ii : IndexReg) (d : Byte) (s : State) : Result :=
  let v := s.memRead (s.ea ii d)
  .next ((v.2.subA v.1).tick 19)

/-- `SUB p` (R361). -/
def execSubP (ii : IndexReg) (z : PReg) (s : State) : Result :=
  .next ((s.subA (s.getP ii z)).tick 8)

/-- `SBC A,r` (R362). -/
def execSbcR (z : Reg8) (s : State) : Result :=
  .next ((s.sbcA (s.getR z)).tick 4)

/-- `SBC A,n` (R363). -/
def execSbcN (n : Byte) (s : State) : Result :=
  .next ((s.sbcA n).tick 7)

/-- `SBC A,(HL)` (R364). -/
def execSbcAtHL (s : State) : Result :=
  let v := s.memRead s.hl
  .next ((v.2.sbcA v.1).tick 7)

/-- `SBC A,(ii+d)` (R365). -/
def execSbcIdx (ii : IndexReg) (d : Byte) (s : State) : Result :=
  let v := s.memRead (s.ea ii d)
  .next ((v.2.sbcA v.1).tick 19)

/-- `SBC A,p` (R366). -/
def execSbcP (ii : IndexReg) (z : PReg) (s : State) : Result :=
  .next ((s.sbcA (s.getP ii z)).tick 8)

/-- `AND r` (R367). -/
def execAndR (z : Reg8) (s : State) : Result :=
  .next ((s.andA (s.getR z)).tick 4)

/-- `AND n` (R368). -/
def execAndN (n : Byte) (s : State) : Result :=
  .next ((s.andA n).tick 7)

/-- `AND (HL)` (R369). -/
def execAndAtHL (s : State) : Result :=
  let v := s.memRead s.hl
  .next ((v.2.andA v.1).tick 7)

/-- `AND (ii+d)` (R370). -/
def execAndIdx (ii : IndexReg) (d : Byte) (s : State) : Result :=
  let v := s.memRead (s.ea ii d)
  .next ((v.2.andA v.1).tick 19)

/-- `AND p` (R371). -/
def execAndP (ii : IndexReg) (z : PReg) (s : State) : Result :=
  .next ((s.andA (s.getP ii z)).tick 8)

/-- `XOR r` (R372). -/
def execXorR (z : Reg8) (s : State) : Result :=
  .next ((s.xorA (s.getR z)).tick 4)

/-- `XOR n` (R373). -/
def execXorN (n : Byte) (s : State) : Result :=
  .next ((s.xorA n).tick 7)

/-- `XOR (HL)` (R374). -/
def execXorAtHL (s : State) : Result :=
  let v := s.memRead s.hl
  .next ((v.2.xorA v.1).tick 7)

/-- `XOR (ii+d)` (R375). -/
def execXorIdx (ii : IndexReg) (d : Byte) (s : State) : Result :=
  let v := s.memRead (s.ea ii d)
  .next ((v.2.xorA v.1).tick 19)

/-- `XOR p` (R376). -/
def execXorP (ii : IndexReg) (z : PReg) (s : State) : Result :=
  .next ((s.xorA (s.getP ii z)).tick 8)

/-- `OR r` (R377). -/
def execOrR (z : Reg8) (s : State) : Result :=
  .next ((s.orA (s.getR z)).tick 4)

/-- `OR n` (R378). -/
def execOrN (n : Byte) (s : State) : Result :=
  .next ((s.orA n).tick 7)

/-- `OR (HL)` (R379). -/
def execOrAtHL (s : State) : Result :=
  let v := s.memRead s.hl
  .next ((v.2.orA v.1).tick 7)

/-- `OR (ii+d)` (R380). -/
def execOrIdx (ii : IndexReg) (d : Byte) (s : State) : Result :=
  let v := s.memRead (s.ea ii d)
  .next ((v.2.orA v.1).tick 19)

/-- `OR p` (R381). -/
def execOrP (ii : IndexReg) (z : PReg) (s : State) : Result :=
  .next ((s.orA (s.getP ii z)).tick 8)

/-- `CP r` (R382). -/
def execCpR (z : Reg8) (s : State) : Result :=
  .next ((s.cpA (s.getR z)).tick 4)

/-- `CP n` (R383). -/
def execCpN (n : Byte) (s : State) : Result :=
  .next ((s.cpA n).tick 7)

/-- `CP (HL)` (R384). -/
def execCpAtHL (s : State) : Result :=
  let v := s.memRead s.hl
  .next ((v.2.cpA v.1).tick 7)

/-- `CP (ii+d)` (R385). -/
def execCpIdx (ii : IndexReg) (d : Byte) (s : State) : Result :=
  let v := s.memRead (s.ea ii d)
  .next ((v.2.cpA v.1).tick 19)

/-- `CP p` (R386). -/
def execCpP (ii : IndexReg) (z : PReg) (s : State) : Result :=
  .next ((s.cpA (s.getP ii z)).tick 8)

/-- `INC r` (R387). -/
def execIncR (y : Reg8) (s : State) : Result :=
  .next ((s.modifyR y inc8).tick 4)

/-- `INC (HL)` (R388). -/
def execIncAtHL (s : State) : Result :=
  .next (((s.modifyAt s.hl inc8).2).tick 11)

/-- `INC p` (R391). -/
def execIncP (ii : IndexReg) (y : PReg) (s : State) : Result :=
  .next ((s.modifyP ii y inc8).tick 8)

/-- `INC (ii+d)` (R393). -/
def execIncIdx (ii : IndexReg) (d : Byte) (s : State) : Result :=
  .next (((s.modifyAt (s.ea ii d) inc8).2).tick 23)

/-- `DEC r` (R389). -/
def execDecR (y : Reg8) (s : State) : Result :=
  .next ((s.modifyR y dec8).tick 4)

/-- `DEC (HL)` (R390). -/
def execDecAtHL (s : State) : Result :=
  .next (((s.modifyAt s.hl dec8).2).tick 11)

/-- `DEC p` (R392). -/
def execDecP (ii : IndexReg) (y : PReg) (s : State) : Result :=
  .next ((s.modifyP ii y dec8).tick 8)

/-- `DEC (ii+d)` (R394). -/
def execDecIdx (ii : IndexReg) (d : Byte) (s : State) : Result :=
  .next (((s.modifyAt (s.ea ii d) dec8).2).tick 23)

/-- `DAA` (R395). -/
def execDaa (s : State) : Result :=
  .next ((s.putAF (daa8 s.a s.f)).tick 4)

/-- `CPL` (R396). -/
def execCpl (s : State) : Result :=
  .next ((s.putAF (s.a ^^^ 0xFF, cplFlags (s.a ^^^ 0xFF) s.f)).tick 4)

/-- `NEG` (R397). -/
def execNeg (_x : BitVec 3) (s : State) : Result :=
  .next ((s.putAF (sub8 0 s.a false)).tick 8)

/-- `SCF` (R398). -/
def execScf (s : State) : Result :=
  .next ((s.setF (scfFlags s.a s.f)).tick 4)

/-- `CCF` (R399). -/
def execCcf (s : State) : Result :=
  .next ((s.setF (ccfFlags s.a s.f)).tick 4)

end Sys2Proof.Machine
end

