-- ==== Sys2Proof/Machine/Block.lean ====
section
/-!
DEFINITION. Meanings of block moves and compares (46_block.md R490 to R497). The state is that after the fetch: PC past
the instruction, R advanced; each meaning adds the T-states of its row.
-/

namespace Sys2Proof.Machine

/-- One iteration of a block move; `step` is 1 or -1 (R490). -/
def State.blockMove (step : Word) (s : State) : State :=
  let v := s.memRead s.hl
  let s1 := v.2.memWrite s.de v.1
  let s2 := ((s1.setHL (s.hl + step)).setDE (s.de + step)).setBC (s.bc - 1)
  s2.setF (blockMoveFlags v.1 s.a (s.bc - 1) s.f)

/-- One iteration of a block compare (R494); answers whether the byte differs from A too. -/
def State.blockCompare (step : Word) (s : State) : Bool × State :=
  let v := s.memRead s.hl
  let s1 := (v.2.setHL (s.hl + step)).setBC (s.bc - 1)
  (s.a - v.1 != 0, s1.setF (blockCompareFlags s.a v.1 (s.bc - 1) s.f))

/-- The end of a repeating block instruction: back to its 0xED byte, or on (R491, R495). -/
def State.repeatIf (again : Bool) (s : State) : State :=
  if again then ({ s with pc := s.pc - 2 }).tick 21 else s.tick 16

/-- `LDI` (R490). -/
def execLdi (s : State) : Result :=
  .next ((s.blockMove 1).tick 16)

/-- `LDIR` (R491). Its flags after a step that repeats: entry 14. -/
def execLdir (s : State) : Result :=
  let s1 := s.blockMove 1
  .next (s1.repeatIf (s1.bc != 0))

/-- `LDD` (R492). -/
def execLdd (s : State) : Result :=
  .next ((s.blockMove (-1)).tick 16)

/-- `LDDR` (R493). Its flags after a step that repeats: entry 14. -/
def execLddr (s : State) : Result :=
  let s1 := s.blockMove (-1)
  .next (s1.repeatIf (s1.bc != 0))

/-- `CPI` (R494). -/
def execCpi (s : State) : Result :=
  .next (((s.blockCompare 1).2).tick 16)

/-- `CPIR` (R495). Its flags after a step that repeats: entry 14. -/
def execCpir (s : State) : Result :=
  let r := s.blockCompare 1
  .next (r.2.repeatIf (r.2.bc != 0 && r.1))

/-- `CPD` (R496). -/
def execCpd (s : State) : Result :=
  .next (((s.blockCompare (-1)).2).tick 16)

/-- `CPDR` (R497). Its flags after a step that repeats: entry 14. -/
def execCpdr (s : State) : Result :=
  let r := s.blockCompare (-1)
  .next (r.2.repeatIf (r.2.bc != 0 && r.1))

end Sys2Proof.Machine
end

