-- ==== Sys2Proof/Machine/Control.lean ====
section
/-!
DEFINITION. Meanings of jumps, calls, returns and restarts (45_control_transfer.md R470 to R483). The state is that after the fetch: PC past
the instruction, R advanced; each meaning adds the T-states of its row.
-/

namespace Sys2Proof.Machine

/-- `pc <- target` (R6). -/
def State.jump (s : State) (target : Word) : State := { s with pc := target }

/-- `pc <- pc + sext_16(e)`, PC being past the instruction (R109, R206). -/
def State.jumpRel (s : State) (e : Byte) : State := s.jump (s.pc + sext16 e)

/-- `push16(pc); pc <- target` (R477). -/
def State.call (s : State) (target : Word) : State := (s.push16 s.pc).jump target

/-- `pc <- pop16()` (R479). -/
def State.popPC (s : State) : State := s.pop16.2.jump s.pop16.1

/-- `JP nn` (R470). -/
def execJpNn (nn : Word) (s : State) : Result :=
  .next ((s.jump nn).tick 10)

/-- `JP cc,nn` (R471). -/
def execJpCcNn (cc : Cond) (nn : Word) (s : State) : Result :=
  .next ((if s.cond cc then s.jump nn else s).tick 10)

/-- `JR e` (R472). -/
def execJrE (e : Byte) (s : State) : Result :=
  .next ((s.jumpRel e).tick 12)

/-- `JR cc,e` (R473). -/
def execJrCcE (cc : Cond) (e : Byte) (s : State) : Result :=
  .next (if s.cond cc then (s.jumpRel e).tick 12 else s.tick 7)

/-- `JP (HL)` (R474). No memory is read. -/
def execJpHL (s : State) : Result :=
  .next ((s.jump s.hl).tick 4)

/-- `JP (ii)` (R475). -/
def execJpIi (ii : IndexReg) (s : State) : Result :=
  .next ((s.jump (s.index ii)).tick 8)

/-- `DJNZ e` (R476). -/
def execDjnzE (e : Byte) (s : State) : Result :=
  let s1 := { s with b := s.b - 1 }
  .next (if s1.b != 0 then (s1.jumpRel e).tick 13 else s1.tick 8)

/-- `CALL nn` (R477). -/
def execCallNn (nn : Word) (s : State) : Result :=
  .next ((s.call nn).tick 17)

/-- `CALL cc,nn` (R478). -/
def execCallCcNn (cc : Cond) (nn : Word) (s : State) : Result :=
  .next (if s.cond cc then (s.call nn).tick 17 else s.tick 10)

/-- `RET` (R479). -/
def execRet (s : State) : Result :=
  .next ((s.popPC).tick 10)

/-- `RET cc` (R480). -/
def execRetCc (cc : Cond) (s : State) : Result :=
  .next (if s.cond cc then s.popPC.tick 11 else s.tick 5)

/-- `RETI` (R481). -/
def execReti (s : State) : Result :=
  .next ((s.returnFromHandler).tick 14)

/-- `RETN` (R482). -/
def execRetn (_x : BitVec 3) (s : State) : Result :=
  .next ((s.returnFromHandler).tick 14)

/-- `RST p` (R483). -/
def execRstP (t : BitVec 3) (s : State) : Result :=
  .next ((s.call (t.setWidth 16 <<< 3)).tick 11)

end Sys2Proof.Machine
end

