-- ==== Sys2Proof/Machine/CpuControl.lean ====
section
/-!
DEFINITION. Meanings of CPU control and the no-operation of the ED table (48_cpu_control.md R520 to R526, R530). The state is that after the fetch: PC past
the instruction, R advanced; each meaning adds the T-states of its row.
-/

namespace Sys2Proof.Machine

/-- `NOP` (R520). -/
def execNop (s : State) : Result :=
  .next (s.tick 4)

/-- `HALT` (R521). PC stays past the opcode (C1, entry 21). -/
def execHalt (s : State) : Result :=
  .next (({ s with halted := true }).tick 4)

/-- `DI` (R522). -/
def execDi (s : State) : Result :=
  .next (({ s with iff1 := false, iff2 := false }).tick 4)

/-- `EI` (R523). -/
def execEi (s : State) : Result :=
  .next (({ s with iff1 := true, iff2 := true, eiDelay := true }).tick 4)

/-- `IM 0` (R524). -/
def execIm0 (_x5 _x3 : Bool) (s : State) : Result :=
  .next (({ s with im := .im0 }).tick 8)

/-- `IM 1` (R525). -/
def execIm1 (_x5 : Bool) (s : State) : Result :=
  .next (({ s with im := .im1 }).tick 8)

/-- `IM 2` (R526). -/
def execIm2 (_x5 : Bool) (s : State) : Result :=
  .next (({ s with im := .im2 }).tick 8)

/-- `ED-NOP` (R530). PC and R have moved with the fetch. -/
def execEdNop (_x : Byte) (s : State) : Result :=
  .next (s.tick 8)

end Sys2Proof.Machine
end

