-- ==== Sys2Proof/Machine/InOut.lean ====
section
/-!
DEFINITION. Meanings of input and output (47_io.md R500 to R513). The state is that after the fetch: PC past
the instruction, R advanced; each meaning adds the T-states of its row.
-/

namespace Sys2Proof.Machine

/-- One iteration of a block input: the port is read at BC before B is decremented (R88, R506). -/
def State.blockIn (step : Word) (s : State) : State :=
  let v := s.portRead s.bc
  let s1 := v.2.memWrite s.hl v.1
  let s2 := ({ s1 with b := s.b - 1 }).setHL (s.hl + step)
  s2.setF (blockIoFlags (s.b - 1) v.1 (s.c + loByte step))

/-- One iteration of a block output: the port is written at BC after B is decremented; k takes the updated L
(R88, R510). -/
def State.blockOut (step : Word) (s : State) : State :=
  let v := s.memRead s.hl
  let s1 := { v.2 with b := s.b - 1 }
  let s2 := (s1.portWrite s1.bc v.1).setHL (s.hl + step)
  s2.setF (blockIoFlags (s.b - 1) v.1 s2.l)

/-- `IN A,(n)` (R500). -/
def execInAN (n : Byte) (s : State) : Result :=
  let v := s.portRead (mkWord s.a n)
  .next ((v.2.setR .a v.1).tick 11)

/-- `IN r,(C)` (R501). -/
def execInRC (y : Reg8) (s : State) : Result :=
  let v := s.portRead s.bc
  .next (((v.2.setR y v.1).setF (szpKeepC v.1 s.f)).tick 12)

/-- `IN (C)` (R502). -/
def execInC (s : State) : Result :=
  let v := s.portRead s.bc
  .next ((v.2.setF (szpKeepC v.1 s.f)).tick 12)

/-- `OUT (n),A` (R503). -/
def execOutNA (n : Byte) (s : State) : Result :=
  .next ((s.portWrite (mkWord s.a n) s.a).tick 11)

/-- `OUT (C),r` (R504). -/
def execOutCR (y : Reg8) (s : State) : Result :=
  .next ((s.portWrite s.bc (s.getR y)).tick 12)

/-- `OUT (C),0` (R505). The byte is the free value OUT_C_0_VALUE (D18, entry 5). -/
def execOutC0 (s : State) : Result :=
  .next ((s.portWrite s.bc Config.outC0Value).tick 12)

/-- `INI` (R506). -/
def execIni (s : State) : Result :=
  .next ((s.blockIn 1).tick 16)

/-- `INIR` (R507). -/
def execInir (s : State) : Result :=
  let s1 := s.blockIn 1
  .next (s1.repeatIf (s1.b != 0))

/-- `IND` (R508). -/
def execInd (s : State) : Result :=
  .next ((s.blockIn (-1)).tick 16)

/-- `INDR` (R509). -/
def execIndr (s : State) : Result :=
  let s1 := s.blockIn (-1)
  .next (s1.repeatIf (s1.b != 0))

/-- `OUTI` (R510). -/
def execOuti (s : State) : Result :=
  .next ((s.blockOut 1).tick 16)

/-- `OTIR` (R511). -/
def execOtir (s : State) : Result :=
  let s1 := s.blockOut 1
  .next (s1.repeatIf (s1.b != 0))

/-- `OUTD` (R512). -/
def execOutd (s : State) : Result :=
  .next ((s.blockOut (-1)).tick 16)

/-- `OTDR` (R513). -/
def execOtdr (s : State) : Result :=
  let s1 := s.blockOut (-1)
  .next (s1.repeatIf (s1.b != 0))

end Sys2Proof.Machine
end

