-- ==== Sys2Proof/Machine/Load16.lean ====
section
/-!
DEFINITION. Meanings of the 16-bit loads, the stack and the exchanges (41_load16_stack_exchange.md R320 to R338). The state is that after the fetch: PC past
the instruction, R advanced; each meaning adds the T-states of its row.
-/

namespace Sys2Proof.Machine

/-- `LD dd,nn` (R320). -/
def execLdDdNn (p : RP) (nn : Word) (s : State) : Result :=
  .next ((s.setRP p nn).tick 10)

/-- `LD HL,(nn)` (R321). -/
def execLdHLAtNn (nn : Word) (s : State) : Result :=
  let v := s.memRead16 nn
  .next ((v.2.setHL v.1).tick 16)

/-- `LD (nn),HL` (R322). -/
def execLdAtNnHL (nn : Word) (s : State) : Result :=
  .next ((s.memWrite16 nn s.hl).tick 16)

/-- `LD dd,(nn)` (R323). -/
def execLdDdAtNn (p : RP) (nn : Word) (s : State) : Result :=
  let v := s.memRead16 nn
  .next ((v.2.setRP p v.1).tick 20)

/-- `LD (nn),dd` (R324). -/
def execLdAtNnDd (p : RP) (nn : Word) (s : State) : Result :=
  .next ((s.memWrite16 nn (s.getRP p)).tick 20)

/-- `LD SP,HL` (R325). -/
def execLdSPHL (s : State) : Result :=
  .next (({ s with sp := s.hl }).tick 6)

/-- `PUSH qq` (R326). -/
def execPushQq (p : RP2) (s : State) : Result :=
  .next ((s.push16 (s.getRP2 p)).tick 11)

/-- `POP qq` (R327). `POP AF` loads all eight bits of F. -/
def execPopQq (p : RP2) (s : State) : Result :=
  let v := s.pop16
  .next ((v.2.setRP2 p v.1).tick 10)

/-- `EX DE,HL` (R328). -/
def execExDEHL (s : State) : Result :=
  .next (((s.setDE s.hl).setHL s.de).tick 4)

/-- `EX AF,AF'` (R329). -/
def execExAFAF (s : State) : Result :=
  .next (({ s with a := s.a', f := s.f', a' := s.a, f' := s.f }).tick 4)

/-- `EXX` (R330). -/
def execExx (s : State) : Result :=
  .next (({ s with
    b := s.b', c := s.c', d := s.d', e := s.e', h := s.h', l := s.l'
    b' := s.b, c' := s.c, d' := s.d, e' := s.e, h' := s.h, l' := s.l }).tick 4)

/-- The exchange of a word with the top of the stack: both bytes are read, low first, then written, high first; SP
stays (R331, R338). Answers the word read. -/
def State.exchangeTop (s : State) (v : Word) : Word × State :=
  let t := s.memRead16 s.sp
  (t.1, (t.2.memWrite (s.sp + 1) (hiByte v)).memWrite s.sp (loByte v))

/-- `EX (SP),HL` (R331). -/
def execExAtSPHL (s : State) : Result :=
  let t := s.exchangeTop s.hl
  .next ((t.2.setHL t.1).tick 19)

/-- `LD ii,nn` (R332). -/
def execLdIiNn (ii : IndexReg) (nn : Word) (s : State) : Result :=
  .next ((s.setIndex ii nn).tick 14)

/-- `LD ii,(nn)` (R333). -/
def execLdIiAtNn (ii : IndexReg) (nn : Word) (s : State) : Result :=
  let v := s.memRead16 nn
  .next ((v.2.setIndex ii v.1).tick 20)

/-- `LD (nn),ii` (R334). -/
def execLdAtNnIi (ii : IndexReg) (nn : Word) (s : State) : Result :=
  .next ((s.memWrite16 nn (s.index ii)).tick 20)

/-- `LD SP,ii` (R335). -/
def execLdSPIi (ii : IndexReg) (s : State) : Result :=
  .next (({ s with sp := s.index ii }).tick 10)

/-- `PUSH ii` (R336). -/
def execPushIi (ii : IndexReg) (s : State) : Result :=
  .next ((s.push16 (s.index ii)).tick 15)

/-- `POP ii` (R337). -/
def execPopIi (ii : IndexReg) (s : State) : Result :=
  let v := s.pop16
  .next ((v.2.setIndex ii v.1).tick 14)

/-- `EX (SP),ii` (R338). -/
def execExAtSPIi (ii : IndexReg) (s : State) : Result :=
  let t := s.exchangeTop (s.index ii)
  .next ((t.2.setIndex ii t.1).tick 23)

end Sys2Proof.Machine
end

