-- ==== Sys2Proof/Machine/Load8.lean ====
section
/-!
DEFINITION. Meanings of the 8-bit loads (40_load8.md R300 to R319). The state is that after the fetch: PC past
the instruction, R advanced; each meaning adds the T-states of its row.
-/

namespace Sys2Proof.Machine

/-- `LD r,r'` (R300). -/
def execLdRR (y z : Reg8) (s : State) : Result :=
  .next ((s.setR y (s.getR z)).tick 4)

/-- `LD r,n` (R301). -/
def execLdRN (y : Reg8) (n : Byte) (s : State) : Result :=
  .next ((s.setR y n).tick 7)

/-- `LD r,(HL)` (R302). -/
def execLdRAtHL (y : Reg8) (s : State) : Result :=
  let v := s.memRead s.hl
  .next ((v.2.setR y v.1).tick 7)

/-- `LD (HL),r` (R303). -/
def execLdAtHLR (z : Reg8) (s : State) : Result :=
  .next ((s.memWrite s.hl (s.getR z)).tick 7)

/-- `LD (HL),n` (R304). -/
def execLdAtHLN (n : Byte) (s : State) : Result :=
  .next ((s.memWrite s.hl n).tick 10)

/-- `LD A,(BC)` (R305). -/
def execLdAAtBC (s : State) : Result :=
  let v := s.memRead s.bc
  .next ((v.2.setR .a v.1).tick 7)

/-- `LD A,(DE)` (R306). -/
def execLdAAtDE (s : State) : Result :=
  let v := s.memRead s.de
  .next ((v.2.setR .a v.1).tick 7)

/-- `LD A,(nn)` (R307). -/
def execLdAAtNn (nn : Word) (s : State) : Result :=
  let v := s.memRead nn
  .next ((v.2.setR .a v.1).tick 13)

/-- `LD (BC),A` (R308). -/
def execLdAtBCA (s : State) : Result :=
  .next ((s.memWrite s.bc s.a).tick 7)

/-- `LD (DE),A` (R309). -/
def execLdAtDEA (s : State) : Result :=
  .next ((s.memWrite s.de s.a).tick 7)

/-- `LD (nn),A` (R310). -/
def execLdAtNnA (nn : Word) (s : State) : Result :=
  .next ((s.memWrite nn s.a).tick 13)

/-- `LD I,A` (R311). -/
def execLdIA (s : State) : Result :=
  .next (({ s with i := s.a }).tick 9)

/-- `LD R,A` (R312). The fetches have advanced R before. -/
def execLdRA (s : State) : Result :=
  .next (({ s with r := s.a }).tick 9)

/-- `LD A,I` (R313). -/
def execLdAI (s : State) : Result :=
  .next (({ s with a := s.i, f := loadIRFlags s.i s.iff2 s.f }).tick 9)

/-- `LD A,R` (R314). R as the two fetches of the instruction left it. -/
def execLdAR (s : State) : Result :=
  .next (({ s with a := s.r, f := loadIRFlags s.r s.iff2 s.f }).tick 9)

/-- `LD r,(ii+d)` (R315). -/
def execLdRIdx (ii : IndexReg) (y : Reg8) (d : Byte) (s : State) : Result :=
  let v := s.memRead (s.ea ii d)
  .next ((v.2.setR y v.1).tick 19)

/-- `LD (ii+d),r` (R316). -/
def execLdIdxR (ii : IndexReg) (z : Reg8) (d : Byte) (s : State) : Result :=
  .next ((s.memWrite (s.ea ii d) (s.getR z)).tick 19)

/-- `LD (ii+d),n` (R317). -/
def execLdIdxN (ii : IndexReg) (d n : Byte) (s : State) : Result :=
  .next ((s.memWrite (s.ea ii d) n).tick 19)

/-- `LD p,p'` (R318). -/
def execLdPP (ii : IndexReg) (y z : PReg) (s : State) : Result :=
  .next ((s.setP ii y (s.getP ii z)).tick 8)

/-- `LD p,n` (R319). -/
def execLdPN (ii : IndexReg) (y : PReg) (n : Byte) (s : State) : Result :=
  .next ((s.setP ii y n).tick 11)

end Sys2Proof.Machine
end

