-- ==== Sys2Proof/Machine/RotateBit.lean ====
section
/-!
DEFINITION. Meanings of rotates, shifts and single bits (44_rotate_shift_bit.md R412 to R460). The state is that after the fetch: PC past
the instruction, R advanced; each meaning adds the T-states of its row.
-/

namespace Sys2Proof.Machine

/-- `RLCA` (R412). -/
def execRlca (s : State) : Result :=
  .next ((s.putAF (rotA .rlc s.a s.f)).tick 4)

/-- `RRCA` (R413). -/
def execRrca (s : State) : Result :=
  .next ((s.putAF (rotA .rrc s.a s.f)).tick 4)

/-- `RLA` (R414). -/
def execRla (s : State) : Result :=
  .next ((s.putAF (rotA .rl s.a s.f)).tick 4)

/-- `RRA` (R415). -/
def execRra (s : State) : Result :=
  .next ((s.putAF (rotA .rr s.a s.f)).tick 4)

/-- `RLC r` (R416). -/
def execRlcR (z : Reg8) (s : State) : Result :=
  .next ((s.modifyR z (rotf .rlc)).tick 8)

/-- `RLC (HL)` (R417). -/
def execRlcAtHL (s : State) : Result :=
  .next (((s.modifyAt s.hl (rotf .rlc)).2).tick 15)

/-- `RRC r` (R418). -/
def execRrcR (z : Reg8) (s : State) : Result :=
  .next ((s.modifyR z (rotf .rrc)).tick 8)

/-- `RRC (HL)` (R419). -/
def execRrcAtHL (s : State) : Result :=
  .next (((s.modifyAt s.hl (rotf .rrc)).2).tick 15)

/-- `RL r` (R420). -/
def execRlR (z : Reg8) (s : State) : Result :=
  .next ((s.modifyR z (rotf .rl)).tick 8)

/-- `RL (HL)` (R421). -/
def execRlAtHL (s : State) : Result :=
  .next (((s.modifyAt s.hl (rotf .rl)).2).tick 15)

/-- `RR r` (R422). -/
def execRrR (z : Reg8) (s : State) : Result :=
  .next ((s.modifyR z (rotf .rr)).tick 8)

/-- `RR (HL)` (R423). -/
def execRrAtHL (s : State) : Result :=
  .next (((s.modifyAt s.hl (rotf .rr)).2).tick 15)

/-- `SLA r` (R424). -/
def execSlaR (z : Reg8) (s : State) : Result :=
  .next ((s.modifyR z (rotf .sla)).tick 8)

/-- `SLA (HL)` (R425). -/
def execSlaAtHL (s : State) : Result :=
  .next (((s.modifyAt s.hl (rotf .sla)).2).tick 15)

/-- `SRA r` (R426). -/
def execSraR (z : Reg8) (s : State) : Result :=
  .next ((s.modifyR z (rotf .sra)).tick 8)

/-- `SRA (HL)` (R427). -/
def execSraAtHL (s : State) : Result :=
  .next (((s.modifyAt s.hl (rotf .sra)).2).tick 15)

/-- `SLL r` (R428). -/
def execSllR (z : Reg8) (s : State) : Result :=
  .next ((s.modifyR z (rotf .sll)).tick 8)

/-- `SLL (HL)` (R429). -/
def execSllAtHL (s : State) : Result :=
  .next (((s.modifyAt s.hl (rotf .sll)).2).tick 15)

/-- `SRL r` (R430). -/
def execSrlR (z : Reg8) (s : State) : Result :=
  .next ((s.modifyR z (rotf .srl)).tick 8)

/-- `SRL (HL)` (R431). -/
def execSrlAtHL (s : State) : Result :=
  .next (((s.modifyAt s.hl (rotf .srl)).2).tick 15)

/-- `BIT b,r` (R432). -/
def execBitR (b : BitVec 3) (z : Reg8) (s : State) : Result :=
  .next ((s.setF (bitf b (s.getR z) (s.getR z) s.f)).tick 8)

/-- `BIT b,(HL)` (R433). Bits 5 and 3 are a free value of BIT_HL_YX (D16, entry 4). -/
def execBitAtHL (b : BitVec 3) (s : State) : Result :=
  let v := s.memRead s.hl
  let f := bitf b v.1 (Config.bitHlYx s.freeCount) s.f
  .next (({ v.2 with f := f, freeCount := s.freeCount + 1 }).tick 12)

/-- `SET b,r` (R434). -/
def execSetR (b : BitVec 3) (z : Reg8) (s : State) : Result :=
  .next ((s.setR z (setBit b (s.getR z))).tick 8)

/-- `SET b,(HL)` (R435). -/
def execSetAtHL (b : BitVec 3) (s : State) : Result :=
  .next (((s.modifyAt s.hl (keepF (setBit b))).2).tick 15)

/-- `RES b,r` (R436). -/
def execResR (b : BitVec 3) (z : Reg8) (s : State) : Result :=
  .next ((s.setR z (resBit b (s.getR z))).tick 8)

/-- `RES b,(HL)` (R437). -/
def execResAtHL (b : BitVec 3) (s : State) : Result :=
  .next (((s.modifyAt s.hl (keepF (resBit b))).2).tick 15)

/-- `RLD` (R438). -/
def execRld (s : State) : Result :=
  let t := s.memRead s.hl
  let a := mkByte (hiNibble s.a) (hiNibble t.1)
  let s1 := t.2.memWrite s.hl (mkByte (loNibble t.1) (loNibble s.a))
  .next ((s1.putAF (a, szpKeepC a s.f)).tick 18)

/-- `RRD` (R439). -/
def execRrd (s : State) : Result :=
  let t := s.memRead s.hl
  let a := mkByte (hiNibble s.a) (loNibble t.1)
  let s1 := t.2.memWrite s.hl (mkByte (loNibble s.a) (hiNibble t.1))
  .next ((s1.putAF (a, szpKeepC a s.f)).tick 18)

/-- `RLC (ii+d)` (R440). -/
def execRlcIdx (ii : IndexReg) (d : Byte) (s : State) : Result :=
  .next (((s.modifyAt (s.ea ii d) (rotf .rlc)).2).tick 23)

/-- `RLC (ii+d),r` (R441). -/
def execRlcIdxR (ii : IndexReg) (d : Byte) (z : Reg8) (s : State) : Result :=
  let r := s.modifyAt (s.ea ii d) (rotf .rlc)
  .next ((r.2.setR z r.1).tick 23)

/-- `RRC (ii+d)` (R442). -/
def execRrcIdx (ii : IndexReg) (d : Byte) (s : State) : Result :=
  .next (((s.modifyAt (s.ea ii d) (rotf .rrc)).2).tick 23)

/-- `RRC (ii+d),r` (R443). -/
def execRrcIdxR (ii : IndexReg) (d : Byte) (z : Reg8) (s : State) : Result :=
  let r := s.modifyAt (s.ea ii d) (rotf .rrc)
  .next ((r.2.setR z r.1).tick 23)

/-- `RL (ii+d)` (R444). -/
def execRlIdx (ii : IndexReg) (d : Byte) (s : State) : Result :=
  .next (((s.modifyAt (s.ea ii d) (rotf .rl)).2).tick 23)

/-- `RL (ii+d),r` (R445). -/
def execRlIdxR (ii : IndexReg) (d : Byte) (z : Reg8) (s : State) : Result :=
  let r := s.modifyAt (s.ea ii d) (rotf .rl)
  .next ((r.2.setR z r.1).tick 23)

/-- `RR (ii+d)` (R446). -/
def execRrIdx (ii : IndexReg) (d : Byte) (s : State) : Result :=
  .next (((s.modifyAt (s.ea ii d) (rotf .rr)).2).tick 23)

/-- `RR (ii+d),r` (R447). -/
def execRrIdxR (ii : IndexReg) (d : Byte) (z : Reg8) (s : State) : Result :=
  let r := s.modifyAt (s.ea ii d) (rotf .rr)
  .next ((r.2.setR z r.1).tick 23)

/-- `SLA (ii+d)` (R448). -/
def execSlaIdx (ii : IndexReg) (d : Byte) (s : State) : Result :=
  .next (((s.modifyAt (s.ea ii d) (rotf .sla)).2).tick 23)

/-- `SLA (ii+d),r` (R449). -/
def execSlaIdxR (ii : IndexReg) (d : Byte) (z : Reg8) (s : State) : Result :=
  let r := s.modifyAt (s.ea ii d) (rotf .sla)
  .next ((r.2.setR z r.1).tick 23)

/-- `SRA (ii+d)` (R450). -/
def execSraIdx (ii : IndexReg) (d : Byte) (s : State) : Result :=
  .next (((s.modifyAt (s.ea ii d) (rotf .sra)).2).tick 23)

/-- `SRA (ii+d),r` (R451). -/
def execSraIdxR (ii : IndexReg) (d : Byte) (z : Reg8) (s : State) : Result :=
  let r := s.modifyAt (s.ea ii d) (rotf .sra)
  .next ((r.2.setR z r.1).tick 23)

/-- `SLL (ii+d)` (R452). -/
def execSllIdx (ii : IndexReg) (d : Byte) (s : State) : Result :=
  .next (((s.modifyAt (s.ea ii d) (rotf .sll)).2).tick 23)

/-- `SLL (ii+d),r` (R453). -/
def execSllIdxR (ii : IndexReg) (d : Byte) (z : Reg8) (s : State) : Result :=
  let r := s.modifyAt (s.ea ii d) (rotf .sll)
  .next ((r.2.setR z r.1).tick 23)

/-- `SRL (ii+d)` (R454). -/
def execSrlIdx (ii : IndexReg) (d : Byte) (s : State) : Result :=
  .next (((s.modifyAt (s.ea ii d) (rotf .srl)).2).tick 23)

/-- `SRL (ii+d),r` (R455). -/
def execSrlIdxR (ii : IndexReg) (d : Byte) (z : Reg8) (s : State) : Result :=
  let r := s.modifyAt (s.ea ii d) (rotf .srl)
  .next ((r.2.setR z r.1).tick 23)

/-- `BIT b,(ii+d)` (R456). The field x is ignored; bits 5 and 3 are bits 13 and 11 of the address. -/
def execBitIdx (ii : IndexReg) (d : Byte) (b _x : BitVec 3) (s : State) : Result :=
  let ea := s.ea ii d
  let v := s.memRead ea
  .next ((v.2.setF (bitf b v.1 (hiByte ea) s.f)).tick 20)

/-- `SET b,(ii+d)` (R457). -/
def execSetIdx (ii : IndexReg) (d : Byte) (b : BitVec 3) (s : State) : Result :=
  .next (((s.modifyAt (s.ea ii d) (keepF (setBit b))).2).tick 23)

/-- `SET b,(ii+d),r` (R458). -/
def execSetIdxR (ii : IndexReg) (d : Byte) (b : BitVec 3) (z : Reg8) (s : State) : Result :=
  let r := s.modifyAt (s.ea ii d) (keepF (setBit b))
  .next ((r.2.setR z r.1).tick 23)

/-- `RES b,(ii+d)` (R459). -/
def execResIdx (ii : IndexReg) (d : Byte) (b : BitVec 3) (s : State) : Result :=
  .next (((s.modifyAt (s.ea ii d) (keepF (resBit b))).2).tick 23)

/-- `RES b,(ii+d),r` (R460). -/
def execResIdxR (ii : IndexReg) (d : Byte) (b : BitVec 3) (z : Reg8) (s : State) : Result :=
  let r := s.modifyAt (s.ea ii d) (keepF (resBit b))
  .next ((r.2.setR z r.1).tick 23)

end Sys2Proof.Machine
end

