-- ==== Sys2Proof/WellFormed.lean ====
section
/-!
DEFINITION. Which terms of `Instr` some bytes encode. The types of the operands already keep out code 110 (R104);
what is left are the constraints of four rows of spec/opcode_table.json.
-/

namespace Sys2Proof

/-- The four conditions `JR cc,e` has a code for (R106, R473). -/
def Cond.isShort : Cond → Bool
  | .nz | .z | .nc | .c => true
  | .po | .pe | .p | .m => false

/-- ED bytes that a row of their own takes (R530 lists the others). -/
def edTaken (x : Byte) : Bool :=
  (0x40 ≤ x.toNat && x.toNat ≤ 0x7F && x.toNat != 0x77 && x.toNat != 0x7F)
    || (0xA0 ≤ x.toNat && x.toNat ≤ 0xBF && x.toNat % 8 < 4)

/-- The BASE instructions a DD or FD byte leaves unchanged because the XY table has no row for their opcode
(R113, R531, and the entries marked `=` in R120's XY map): those that name neither HL, H, L nor (HL), and
`EX DE,HL`, `EXX`, `HALT`. -/
def Instr.isFallbackBase : Instr → Bool
  | .ldAAtBC | .ldAAtDE | .ldAAtNn _ | .ldAtBCA | .ldAtDEA | .ldAtNnA _ => true
  | .ldDdNn p _ | .incSs p | .decSs p => p != .hl
  | .pushQq p | .popQq p => p != .hl
  | .exDEHL | .exAFAF | .exx => true
  | .addN _ | .adcN _ | .subN _ | .sbcN _ | .andN _ | .xorN _ | .orN _ | .cpN _ => true
  | .daa | .cpl | .scf | .ccf | .rlca | .rrca | .rla | .rra => true
  | .jpNn _ | .jpCcNn _ _ | .jrE _ | .djnzE _ | .callNn _ | .callCcNn _ _ | .ret | .retCc _ | .rstP _ => true
  | .jrCcE cc _ => cc.isShort
  | .inAN _ | .outNA _ => true
  | .nop | .halt | .di | .ei => true
  | _ => false

/-- The check: `JR cc,e` has one of the four short conditions, the don't-care bits of `RETN` are not 001 (which is
`RETI`, R482), an ED no-operation is not a byte some other ED row takes (R530), a fallback's inner instruction is one
the XY table does not define (R531). Every other term is well formed. -/
def Instr.WellFormed : Instr → Bool
  | .jrCcE cc _ => cc.isShort
  | .retn x => x != 1#3
  | .edNop x => !edTaken x
  | .xyFallback _ base => base.isFallbackBase
  | _ => true

end Sys2Proof
end

