-- ==== Sys2Proof/Machine/Prefix.lean ====
section
/-!
DEFINITION. The lead-in bytes and the XY fallback (30_encoding.md R111, R113, R121; 48_cpu_control.md R527 to R531).
-/

namespace Sys2Proof.Machine

/-- `prefix CB` (R527): "not an instruction", so it has no effect of its own; the step never runs it, since the byte
0xCB and the next one are one instruction of table CB (entry 11). -/
def execPrefixCB (s : State) : Result :=
  .next s

/-- `prefix ED` (R528): as `prefix CB`, for table ED (entry 11). -/
def execPrefixED (s : State) : Result :=
  .next s

/-- A DD or FD byte that another DD, FD or an ED follows: "it costs 4 T-states and one R increment and has no other
effect" (R111, R121, R529); R has moved with its fetch. -/
def execPrefixXY (_ii : IndexReg) (s : State) : Result :=
  .next (s.tick 4)

/-- The BASE instruction behind an ignored DD or FD byte, "exactly as if unprefixed" (R113, R531). Total: the terms
that are no such instruction are refused. -/
def execFallbackBase (base : Instr) (s : State) : Result :=
  match base with
  | .ldAAtBC => execLdAAtBC s
  | .ldAAtDE => execLdAAtDE s
  | .ldAAtNn nn => execLdAAtNn nn s
  | .ldAtBCA => execLdAtBCA s
  | .ldAtDEA => execLdAtDEA s
  | .ldAtNnA nn => execLdAtNnA nn s
  | .ldDdNn p nn => execLdDdNn p nn s
  | .incSs p => execIncSs p s
  | .decSs p => execDecSs p s
  | .pushQq p => execPushQq p s
  | .popQq p => execPopQq p s
  | .exDEHL => execExDEHL s
  | .exAFAF => execExAFAF s
  | .exx => execExx s
  | .addN n => execAddN n s
  | .adcN n => execAdcN n s
  | .subN n => execSubN n s
  | .sbcN n => execSbcN n s
  | .andN n => execAndN n s
  | .xorN n => execXorN n s
  | .orN n => execOrN n s
  | .cpN n => execCpN n s
  | .daa => execDaa s
  | .cpl => execCpl s
  | .scf => execScf s
  | .ccf => execCcf s
  | .rlca => execRlca s
  | .rrca => execRrca s
  | .rla => execRla s
  | .rra => execRra s
  | .jpNn nn => execJpNn nn s
  | .jpCcNn cc nn => execJpCcNn cc nn s
  | .jrE e => execJrE e s
  | .jrCcE cc e => execJrCcE cc e s
  | .djnzE e => execDjnzE e s
  | .callNn nn => execCallNn nn s
  | .callCcNn cc nn => execCallCcNn cc nn s
  | .ret => execRet s
  | .retCc cc => execRetCc cc s
  | .rstP t => execRstP t s
  | .inAN n => execInAN n s
  | .outNA n => execOutNA n s
  | .nop => execNop s
  | .halt => execHalt s
  | .di => execDi s
  | .ei => execEi s
  | _ => .refused .illFormed

/-- `XY-FALLBACK` (R531): "the prefix has cost 4 T-states and one R increment". -/
def execXyFallback (_ii : IndexReg) (base : Instr) (s : State) : Result :=
  if base.isFallbackBase then execFallbackBase base (s.tick 4) else .refused .illFormed

end Sys2Proof.Machine
end

