-- ==== Sys2Proof/Machine/Dispatch.lean ====
section
/-!
DEFINITION. One arm per instruction, each a call of its meaning.
-/

namespace Sys2Proof.Machine

/-- What an instruction does to the state after its fetch. -/
def exec (i : Instr) (s : State) : Host.Outcome State Fault Refusal :=
  match i with
  | .ldRR y z => Sys2Proof.Machine.execLdRR y z s
  | .ldRN y n => Sys2Proof.Machine.execLdRN y n s
  | .ldRAtHL y => Sys2Proof.Machine.execLdRAtHL y s
  | .ldAtHLR z => Sys2Proof.Machine.execLdAtHLR z s
  | .ldAtHLN n => Sys2Proof.Machine.execLdAtHLN n s
  | .ldAAtBC => Sys2Proof.Machine.execLdAAtBC s
  | .ldAAtDE => Sys2Proof.Machine.execLdAAtDE s
  | .ldAAtNn nn => Sys2Proof.Machine.execLdAAtNn nn s
  | .ldAtBCA => Sys2Proof.Machine.execLdAtBCA s
  | .ldAtDEA => Sys2Proof.Machine.execLdAtDEA s
  | .ldAtNnA nn => Sys2Proof.Machine.execLdAtNnA nn s
  | .ldIA => Sys2Proof.Machine.execLdIA s
  | .ldRA => Sys2Proof.Machine.execLdRA s
  | .ldAI => Sys2Proof.Machine.execLdAI s
  | .ldAR => Sys2Proof.Machine.execLdAR s
  | .ldRIdx ii y d => Sys2Proof.Machine.execLdRIdx ii y d s
  | .ldIdxR ii z d => Sys2Proof.Machine.execLdIdxR ii z d s
  | .ldIdxN ii d n => Sys2Proof.Machine.execLdIdxN ii d n s
  | .ldPP ii y z => Sys2Proof.Machine.execLdPP ii y z s
  | .ldPN ii y n => Sys2Proof.Machine.execLdPN ii y n s
  | .ldDdNn p nn => Sys2Proof.Machine.execLdDdNn p nn s
  | .ldHLAtNn nn => Sys2Proof.Machine.execLdHLAtNn nn s
  | .ldAtNnHL nn => Sys2Proof.Machine.execLdAtNnHL nn s
  | .ldDdAtNn p nn => Sys2Proof.Machine.execLdDdAtNn p nn s
  | .ldAtNnDd p nn => Sys2Proof.Machine.execLdAtNnDd p nn s
  | .ldSPHL => Sys2Proof.Machine.execLdSPHL s
  | .pushQq p => Sys2Proof.Machine.execPushQq p s
  | .popQq p => Sys2Proof.Machine.execPopQq p s
  | .exDEHL => Sys2Proof.Machine.execExDEHL s
  | .exAFAF => Sys2Proof.Machine.execExAFAF s
  | .exx => Sys2Proof.Machine.execExx s
  | .exAtSPHL => Sys2Proof.Machine.execExAtSPHL s
  | .ldIiNn ii nn => Sys2Proof.Machine.execLdIiNn ii nn s
  | .ldIiAtNn ii nn => Sys2Proof.Machine.execLdIiAtNn ii nn s
  | .ldAtNnIi ii nn => Sys2Proof.Machine.execLdAtNnIi ii nn s
  | .ldSPIi ii => Sys2Proof.Machine.execLdSPIi ii s
  | .pushIi ii => Sys2Proof.Machine.execPushIi ii s
  | .popIi ii => Sys2Proof.Machine.execPopIi ii s
  | .exAtSPIi ii => Sys2Proof.Machine.execExAtSPIi ii s
  | .addR z => Sys2Proof.Machine.execAddR z s
  | .addN n => Sys2Proof.Machine.execAddN n s
  | .addAtHL => Sys2Proof.Machine.execAddAtHL s
  | .addIdx ii d => Sys2Proof.Machine.execAddIdx ii d s
  | .addP ii z => Sys2Proof.Machine.execAddP ii z s
  | .adcR z => Sys2Proof.Machine.execAdcR z s
  | .adcN n => Sys2Proof.Machine.execAdcN n s
  | .adcAtHL => Sys2Proof.Machine.execAdcAtHL s
  | .adcIdx ii d => Sys2Proof.Machine.execAdcIdx ii d s
  | .adcP ii z => Sys2Proof.Machine.execAdcP ii z s
  | .subR z => Sys2Proof.Machine.execSubR z s
  | .subN n => Sys2Proof.Machine.execSubN n s
  | .subAtHL => Sys2Proof.Machine.execSubAtHL s
  | .subIdx ii d => Sys2Proof.Machine.execSubIdx ii d s
  | .subP ii z => Sys2Proof.Machine.execSubP ii z s
  | .sbcR z => Sys2Proof.Machine.execSbcR z s
  | .sbcN n => Sys2Proof.Machine.execSbcN n s
  | .sbcAtHL => Sys2Proof.Machine.execSbcAtHL s
  | .sbcIdx ii d => Sys2Proof.Machine.execSbcIdx ii d s
  | .sbcP ii z => Sys2Proof.Machine.execSbcP ii z s
  | .andR z => Sys2Proof.Machine.execAndR z s
  | .andN n => Sys2Proof.Machine.execAndN n s
  | .andAtHL => Sys2Proof.Machine.execAndAtHL s
  | .andIdx ii d => Sys2Proof.Machine.execAndIdx ii d s
  | .andP ii z => Sys2Proof.Machine.execAndP ii z s
  | .xorR z => Sys2Proof.Machine.execXorR z s
  | .xorN n => Sys2Proof.Machine.execXorN n s
  | .xorAtHL => Sys2Proof.Machine.execXorAtHL s
  | .xorIdx ii d => Sys2Proof.Machine.execXorIdx ii d s
  | .xorP ii z => Sys2Proof.Machine.execXorP ii z s
  | .orR z => Sys2Proof.Machine.execOrR z s
  | .orN n => Sys2Proof.Machine.execOrN n s
  | .orAtHL => Sys2Proof.Machine.execOrAtHL s
  | .orIdx ii d => Sys2Proof.Machine.execOrIdx ii d s
  | .orP ii z => Sys2Proof.Machine.execOrP ii z s
  | .cpR z => Sys2Proof.Machine.execCpR z s
  | .cpN n => Sys2Proof.Machine.execCpN n s
  | .cpAtHL => Sys2Proof.Machine.execCpAtHL s
  | .cpIdx ii d => Sys2Proof.Machine.execCpIdx ii d s
  | .cpP ii z => Sys2Proof.Machine.execCpP ii z s
  | .incR y => Sys2Proof.Machine.execIncR y s
  | .incAtHL => Sys2Proof.Machine.execIncAtHL s
  | .decR y => Sys2Proof.Machine.execDecR y s
  | .decAtHL => Sys2Proof.Machine.execDecAtHL s
  | .incP ii y => Sys2Proof.Machine.execIncP ii y s
  | .decP ii y => Sys2Proof.Machine.execDecP ii y s
  | .incIdx ii d => Sys2Proof.Machine.execIncIdx ii d s
  | .decIdx ii d => Sys2Proof.Machine.execDecIdx ii d s
  | .daa => Sys2Proof.Machine.execDaa s
  | .cpl => Sys2Proof.Machine.execCpl s
  | .neg x => Sys2Proof.Machine.execNeg x s
  | .scf => Sys2Proof.Machine.execScf s
  | .ccf => Sys2Proof.Machine.execCcf s
  | .addHLSs p => Sys2Proof.Machine.execAddHLSs p s
  | .adcHLSs p => Sys2Proof.Machine.execAdcHLSs p s
  | .sbcHLSs p => Sys2Proof.Machine.execSbcHLSs p s
  | .incSs p => Sys2Proof.Machine.execIncSs p s
  | .decSs p => Sys2Proof.Machine.execDecSs p s
  | .addIiPp ii p => Sys2Proof.Machine.execAddIiPp ii p s
  | .incIi ii => Sys2Proof.Machine.execIncIi ii s
  | .decIi ii => Sys2Proof.Machine.execDecIi ii s
  | .rlca => Sys2Proof.Machine.execRlca s
  | .rrca => Sys2Proof.Machine.execRrca s
  | .rla => Sys2Proof.Machine.execRla s
  | .rra => Sys2Proof.Machine.execRra s
  | .rlcR z => Sys2Proof.Machine.execRlcR z s
  | .rlcAtHL => Sys2Proof.Machine.execRlcAtHL s
  | .rrcR z => Sys2Proof.Machine.execRrcR z s
  | .rrcAtHL => Sys2Proof.Machine.execRrcAtHL s
  | .rlR z => Sys2Proof.Machine.execRlR z s
  | .rlAtHL => Sys2Proof.Machine.execRlAtHL s
  | .rrR z => Sys2Proof.Machine.execRrR z s
  | .rrAtHL => Sys2Proof.Machine.execRrAtHL s
  | .slaR z => Sys2Proof.Machine.execSlaR z s
  | .slaAtHL => Sys2Proof.Machine.execSlaAtHL s
  | .sraR z => Sys2Proof.Machine.execSraR z s
  | .sraAtHL => Sys2Proof.Machine.execSraAtHL s
  | .sllR z => Sys2Proof.Machine.execSllR z s
  | .sllAtHL => Sys2Proof.Machine.execSllAtHL s
  | .srlR z => Sys2Proof.Machine.execSrlR z s
  | .srlAtHL => Sys2Proof.Machine.execSrlAtHL s
  | .bitR b z => Sys2Proof.Machine.execBitR b z s
  | .bitAtHL b => Sys2Proof.Machine.execBitAtHL b s
  | .setR b z => Sys2Proof.Machine.execSetR b z s
  | .setAtHL b => Sys2Proof.Machine.execSetAtHL b s
  | .resR b z => Sys2Proof.Machine.execResR b z s
  | .resAtHL b => Sys2Proof.Machine.execResAtHL b s
  | .rld => Sys2Proof.Machine.execRld s
  | .rrd => Sys2Proof.Machine.execRrd s
  | .rlcIdx ii d => Sys2Proof.Machine.execRlcIdx ii d s
  | .rlcIdxR ii d z => Sys2Proof.Machine.execRlcIdxR ii d z s
  | .rrcIdx ii d => Sys2Proof.Machine.execRrcIdx ii d s
  | .rrcIdxR ii d z => Sys2Proof.Machine.execRrcIdxR ii d z s
  | .rlIdx ii d => Sys2Proof.Machine.execRlIdx ii d s
  | .rlIdxR ii d z => Sys2Proof.Machine.execRlIdxR ii d z s
  | .rrIdx ii d => Sys2Proof.Machine.execRrIdx ii d s
  | .rrIdxR ii d z => Sys2Proof.Machine.execRrIdxR ii d z s
  | .slaIdx ii d => Sys2Proof.Machine.execSlaIdx ii d s
  | .slaIdxR ii d z => Sys2Proof.Machine.execSlaIdxR ii d z s
  | .sraIdx ii d => Sys2Proof.Machine.execSraIdx ii d s
  | .sraIdxR ii d z => Sys2Proof.Machine.execSraIdxR ii d z s
  | .sllIdx ii d => Sys2Proof.Machine.execSllIdx ii d s
  | .sllIdxR ii d z => Sys2Proof.Machine.execSllIdxR ii d z s
  | .srlIdx ii d => Sys2Proof.Machine.execSrlIdx ii d s
  | .srlIdxR ii d z => Sys2Proof.Machine.execSrlIdxR ii d z s
  | .bitIdx ii d b x => Sys2Proof.Machine.execBitIdx ii d b x s
  | .setIdx ii d b => Sys2Proof.Machine.execSetIdx ii d b s
  | .setIdxR ii d b z => Sys2Proof.Machine.execSetIdxR ii d b z s
  | .resIdx ii d b => Sys2Proof.Machine.execResIdx ii d b s
  | .resIdxR ii d b z => Sys2Proof.Machine.execResIdxR ii d b z s
  | .jpNn nn => Sys2Proof.Machine.execJpNn nn s
  | .jpCcNn cc nn => Sys2Proof.Machine.execJpCcNn cc nn s
  | .jrE e => Sys2Proof.Machine.execJrE e s
  | .jrCcE cc e => Sys2Proof.Machine.execJrCcE cc e s
  | .jpHL => Sys2Proof.Machine.execJpHL s
  | .jpIi ii => Sys2Proof.Machine.execJpIi ii s
  | .djnzE e => Sys2Proof.Machine.execDjnzE e s
  | .callNn nn => Sys2Proof.Machine.execCallNn nn s
  | .callCcNn cc nn => Sys2Proof.Machine.execCallCcNn cc nn s
  | .ret => Sys2Proof.Machine.execRet s
  | .retCc cc => Sys2Proof.Machine.execRetCc cc s
  | .reti => Sys2Proof.Machine.execReti s
  | .retn x => Sys2Proof.Machine.execRetn x s
  | .rstP t => Sys2Proof.Machine.execRstP t s
  | .ldi => Sys2Proof.Machine.execLdi s
  | .ldir => Sys2Proof.Machine.execLdir s
  | .ldd => Sys2Proof.Machine.execLdd s
  | .lddr => Sys2Proof.Machine.execLddr s
  | .cpi => Sys2Proof.Machine.execCpi s
  | .cpir => Sys2Proof.Machine.execCpir s
  | .cpd => Sys2Proof.Machine.execCpd s
  | .cpdr => Sys2Proof.Machine.execCpdr s
  | .inAN n => Sys2Proof.Machine.execInAN n s
  | .inRC y => Sys2Proof.Machine.execInRC y s
  | .inC => Sys2Proof.Machine.execInC s
  | .outNA n => Sys2Proof.Machine.execOutNA n s
  | .outCR y => Sys2Proof.Machine.execOutCR y s
  | .outC0 => Sys2Proof.Machine.execOutC0 s
  | .ini => Sys2Proof.Machine.execIni s
  | .inir => Sys2Proof.Machine.execInir s
  | .ind => Sys2Proof.Machine.execInd s
  | .indr => Sys2Proof.Machine.execIndr s
  | .outi => Sys2Proof.Machine.execOuti s
  | .otir => Sys2Proof.Machine.execOtir s
  | .outd => Sys2Proof.Machine.execOutd s
  | .otdr => Sys2Proof.Machine.execOtdr s
  | .nop => Sys2Proof.Machine.execNop s
  | .halt => Sys2Proof.Machine.execHalt s
  | .di => Sys2Proof.Machine.execDi s
  | .ei => Sys2Proof.Machine.execEi s
  | .im0 x5 x3 => Sys2Proof.Machine.execIm0 x5 x3 s
  | .im1 x5 => Sys2Proof.Machine.execIm1 x5 s
  | .im2 x5 => Sys2Proof.Machine.execIm2 x5 s
  | .prefixCB => Sys2Proof.Machine.execPrefixCB s
  | .prefixED => Sys2Proof.Machine.execPrefixED s
  | .prefixXY ii => Sys2Proof.Machine.execPrefixXY ii s
  | .edNop x => Sys2Proof.Machine.execEdNop x s
  | .xyFallback ii base => Sys2Proof.Machine.execXyFallback ii base s

end Sys2Proof.Machine
end

