-- ==== Sys2Proof/Decode.lean ====
section
/-!
DEFINITION. From bytes to instructions and back (30_encoding.md R100 to R116; spec/opcode_table.json). The five tables
BASE, CB, ED, XY and XYCB are five functions of an opcode byte's fields x, y, z; one window of four bytes always
holds one item of the instruction stream. An item is an instruction, or one DD or FD byte that R111 (a, b) drops.
-/

namespace Sys2Proof

/-! ## Field codes (R104 to R107) -/

/-- `r[k]` (R104); code 6 is no register. -/
def Reg8.ofCode : Nat → Option Reg8
  | 0 => some .b | 1 => some .c | 2 => some .d | 3 => some .e | 4 => some .h | 5 => some .l | 6 => none | _ => some .a

/-- The code of a register (R104). -/
def Reg8.code : Reg8 → Nat
  | .b => 0 | .c => 1 | .d => 2 | .e => 3 | .h => 4 | .l => 5 | .a => 7

/-- `p[k]` under a DD or FD byte (R104); code 6 is no register. -/
def PReg.ofCode : Nat → Option PReg
  | 0 => some .b | 1 => some .c | 2 => some .d | 3 => some .e | 4 => some .iiH | 5 => some .iiL | 6 => none
  | _ => some .a

/-- The code of a register under a DD or FD byte (R104). -/
def PReg.code : PReg → Nat
  | .b => 0 | .c => 1 | .d => 2 | .e => 3 | .iiH => 4 | .iiL => 5 | .a => 7

/-- `rp[p]` (R105). -/
def RP.ofCode : Nat → RP
  | 0 => .bc | 1 => .de | 2 => .hl | _ => .sp

/-- The code of a pair of `rp` (R105). -/
def RP.code : RP → Nat
  | .bc => 0 | .de => 1 | .hl => 2 | .sp => 3

/-- `rp2[p]` (R105). -/
def RP2.ofCode : Nat → RP2
  | 0 => .bc | 1 => .de | 2 => .hl | _ => .af

/-- The code of a pair of `rp2` (R105). -/
def RP2.code : RP2 → Nat
  | .bc => 0 | .de => 1 | .hl => 2 | .af => 3

/-- `rpi[p]` (R105). -/
def RPI.ofCode : Nat → RPI
  | 0 => .bc | 1 => .de | 2 => .ii | _ => .sp

/-- The code of a pair of `rpi` (R105). -/
def RPI.code : RPI → Nat
  | .bc => 0 | .de => 1 | .ii => 2 | .sp => 3

/-- `cc[c]` (R106). -/
def Cond.ofCode : Nat → Cond
  | 0 => .nz | 1 => .z | 2 => .nc | 3 => .c | 4 => .po | 5 => .pe | 6 => .p | _ => .m

/-- The code of a condition (R106). -/
def Cond.code : Cond → Nat
  | .nz => 0 | .z => 1 | .nc => 2 | .c => 3 | .po => 4 | .pe => 5 | .p => 6 | .m => 7

/-- The prefix byte `11i11101` (R100). -/
def IndexReg.byte : IndexReg → Byte
  | .ix => 0xDD | .iy => 0xFD

/-- IX for 0xDD, IY for 0xFD, no index register otherwise (R102). -/
def IndexReg.ofByte (b : Byte) : Option IndexReg :=
  match b.toNat with
  | 0xDD => some .ix
  | 0xFD => some .iy
  | _ => none

/-! ## Operation codes in bits 5..3 (R107) -/

/-- `10 ooo zzz`, register operand. -/
def aluR (o : Nat) (z : Reg8) : Instr :=
  match o with
  | 0 => .addR z | 1 => .adcR z | 2 => .subR z | 3 => .sbcR z | 4 => .andR z | 5 => .xorR z | 6 => .orR z | _ => .cpR z

/-- `10 ooo 110`, operand `(HL)`. -/
def aluAtHL (o : Nat) : Instr :=
  match o with
  | 0 => .addAtHL | 1 => .adcAtHL | 2 => .subAtHL | 3 => .sbcAtHL | 4 => .andAtHL | 5 => .xorAtHL | 6 => .orAtHL
  | _ => .cpAtHL

/-- `11 ooo 110`, immediate operand. -/
def aluN (o : Nat) (n : Byte) : Instr :=
  match o with
  | 0 => .addN n | 1 => .adcN n | 2 => .subN n | 3 => .sbcN n | 4 => .andN n | 5 => .xorN n | 6 => .orN n | _ => .cpN n

/-- `10 ooo zzz` under a DD or FD byte, register or index half. -/
def aluP (o : Nat) (ii : IndexReg) (z : PReg) : Instr :=
  match o with
  | 0 => .addP ii z | 1 => .adcP ii z | 2 => .subP ii z | 3 => .sbcP ii z | 4 => .andP ii z | 5 => .xorP ii z
  | 6 => .orP ii z | _ => .cpP ii z

/-- `10 ooo 110` under a DD or FD byte, operand `(ii+d)`. -/
def aluIdx (o : Nat) (ii : IndexReg) (d : Byte) : Instr :=
  match o with
  | 0 => .addIdx ii d | 1 => .adcIdx ii d | 2 => .subIdx ii d | 3 => .sbcIdx ii d | 4 => .andIdx ii d
  | 5 => .xorIdx ii d | 6 => .orIdx ii d | _ => .cpIdx ii d

/-- CB table, `00 ooo zzz`, register operand. -/
def rotR (o : Nat) (z : Reg8) : Instr :=
  match o with
  | 0 => .rlcR z | 1 => .rrcR z | 2 => .rlR z | 3 => .rrR z | 4 => .slaR z | 5 => .sraR z | 6 => .sllR z | _ => .srlR z

/-- CB table, `00 ooo 110`, operand `(HL)`. -/
def rotAtHL (o : Nat) : Instr :=
  match o with
  | 0 => .rlcAtHL | 1 => .rrcAtHL | 2 => .rlAtHL | 3 => .rrAtHL | 4 => .slaAtHL | 5 => .sraAtHL | 6 => .sllAtHL
  | _ => .srlAtHL

/-- XYCB table, `00 ooo 110`. -/
def rotIdx (o : Nat) (ii : IndexReg) (d : Byte) : Instr :=
  match o with
  | 0 => .rlcIdx ii d | 1 => .rrcIdx ii d | 2 => .rlIdx ii d | 3 => .rrIdx ii d | 4 => .slaIdx ii d | 5 => .sraIdx ii d
  | 6 => .sllIdx ii d | _ => .srlIdx ii d

/-- XYCB table, `00 ooo zzz`, result also to a register. -/
def rotIdxR (o : Nat) (ii : IndexReg) (d : Byte) (z : Reg8) : Instr :=
  match o with
  | 0 => .rlcIdxR ii d z | 1 => .rrcIdxR ii d z | 2 => .rlIdxR ii d z | 3 => .rrIdxR ii d z | 4 => .slaIdxR ii d z
  | 5 => .sraIdxR ii d z | 6 => .sllIdxR ii d z | _ => .srlIdxR ii d z

/-! ## The five tables -/

/-- BASE entries with x = 0. -/
def decodeBase0 (y z : Nat) (n : Byte) (nn : Word) : Instr × Nat :=
  match z with
  | 0 =>
    match y with
    | 0 => (.nop, 1)
    | 1 => (.exAFAF, 1)
    | 2 => (.djnzE n, 2)
    | 3 => (.jrE n, 2)
    | _ => (.jrCcE (Cond.ofCode (y - 4)) n, 2)
  | 1 => if y % 2 = 0 then (.ldDdNn (RP.ofCode (y / 2)) nn, 3) else (.addHLSs (RP.ofCode (y / 2)), 1)
  | 2 =>
    match y with
    | 0 => (.ldAtBCA, 1)
    | 1 => (.ldAAtBC, 1)
    | 2 => (.ldAtDEA, 1)
    | 3 => (.ldAAtDE, 1)
    | 4 => (.ldAtNnHL nn, 3)
    | 5 => (.ldHLAtNn nn, 3)
    | 6 => (.ldAtNnA nn, 3)
    | _ => (.ldAAtNn nn, 3)
  | 3 => if y % 2 = 0 then (.incSs (RP.ofCode (y / 2)), 1) else (.decSs (RP.ofCode (y / 2)), 1)
  | 4 =>
    match Reg8.ofCode y with
    | some r => (.incR r, 1)
    | none => (.incAtHL, 1)
  | 5 =>
    match Reg8.ofCode y with
    | some r => (.decR r, 1)
    | none => (.decAtHL, 1)
  | 6 =>
    match Reg8.ofCode y with
    | some r => (.ldRN r n, 2)
    | none => (.ldAtHLN n, 2)
  | _ =>
    match y with
    | 0 => (.rlca, 1)
    | 1 => (.rrca, 1)
    | 2 => (.rla, 1)
    | 3 => (.rra, 1)
    | 4 => (.daa, 1)
    | 5 => (.cpl, 1)
    | 6 => (.scf, 1)
    | _ => (.ccf, 1)

/-- BASE entries with x = 1: the loads between registers and `(HL)`, and `HALT`. -/
def decodeBase1 (y z : Nat) : Instr :=
  match Reg8.ofCode y, Reg8.ofCode z with
  | some r, some r' => .ldRR r r'
  | some r, none => .ldRAtHL r
  | none, some r' => .ldAtHLR r'
  | none, none => .halt

/-- BASE entries with x = 2: the 8-bit ALU group. -/
def decodeBase2 (y z : Nat) : Instr :=
  match Reg8.ofCode z with
  | some r => aluR y r
  | none => aluAtHL y

/-- BASE entries with x = 3. -/
def decodeBase3 (y z : Nat) (n : Byte) (nn : Word) : Instr × Nat :=
  match z with
  | 0 => (.retCc (Cond.ofCode y), 1)
  | 1 =>
    match y with
    | 1 => (.ret, 1)
    | 3 => (.exx, 1)
    | 5 => (.jpHL, 1)
    | 7 => (.ldSPHL, 1)
    | _ => (.popQq (RP2.ofCode (y / 2)), 1)
  | 2 => (.jpCcNn (Cond.ofCode y) nn, 3)
  | 3 =>
    match y with
    | 0 => (.jpNn nn, 3)
    | 1 => (.prefixCB, 1)
    | 2 => (.outNA n, 2)
    | 3 => (.inAN n, 2)
    | 4 => (.exAtSPHL, 1)
    | 5 => (.exDEHL, 1)
    | 6 => (.di, 1)
    | _ => (.ei, 1)
  | 4 => (.callCcNn (Cond.ofCode y) nn, 3)
  | 5 =>
    match y with
    | 1 => (.callNn nn, 3)
    | 3 => (.prefixXY .ix, 1)
    | 5 => (.prefixED, 1)
    | 7 => (.prefixXY .iy, 1)
    | _ => (.pushQq (RP2.ofCode (y / 2)), 1)
  | 6 => (aluN y n, 2)
  | _ => (.rstP (BitVec.ofNat 3 y), 1)

/-- Table BASE: the entry of opcode `op` with the operand bytes `n`, `m` that follow it, and its length (R116). -/
def decodeBase (op n m : Byte) : Instr × Nat :=
  match fieldX op with
  | 0 => decodeBase0 (fieldY op) (fieldZ op) n (mkWord m n)
  | 1 => (decodeBase1 (fieldY op) (fieldZ op), 1)
  | 2 => (decodeBase2 (fieldY op) (fieldZ op), 1)
  | _ => decodeBase3 (fieldY op) (fieldZ op) n (mkWord m n)

/-- Table CB: `00` rotate or shift, `01` BIT, `10` RES, `11` SET (R107). -/
def decodeCB (op : Byte) : Instr :=
  let b := BitVec.ofNat 3 (fieldY op)
  match fieldX op, Reg8.ofCode (fieldZ op) with
  | 0, some r => rotR (fieldY op) r
  | 0, none => rotAtHL (fieldY op)
  | 1, some r => .bitR b r
  | 1, none => .bitAtHL b
  | 2, some r => .resR b r
  | 2, none => .resAtHL b
  | _, some r => .setR b r
  | _, none => .setAtHL b

/-- Table ED, `01 yyy zzz`. -/
def decodeED1 (op : Byte) (y z : Nat) (nn : Word) : Instr × Nat :=
  match z with
  | 0 =>
    match Reg8.ofCode y with
    | some r => (.inRC r, 2)
    | none => (.inC, 2)
  | 1 =>
    match Reg8.ofCode y with
    | some r => (.outCR r, 2)
    | none => (.outC0, 2)
  | 2 => if y % 2 = 0 then (.sbcHLSs (RP.ofCode (y / 2)), 2) else (.adcHLSs (RP.ofCode (y / 2)), 2)
  | 3 => if y % 2 = 0 then (.ldAtNnDd (RP.ofCode (y / 2)) nn, 4) else (.ldDdAtNn (RP.ofCode (y / 2)) nn, 4)
  | 4 => (.neg (BitVec.ofNat 3 y), 2)
  | 5 => if y = 1 then (.reti, 2) else (.retn (BitVec.ofNat 3 y), 2)
  | 6 =>
    match y with
    | 0 => (.im0 false false, 2)
    | 1 => (.im0 false true, 2)
    | 2 => (.im1 false, 2)
    | 3 => (.im2 false, 2)
    | 4 => (.im0 true false, 2)
    | 5 => (.im0 true true, 2)
    | 6 => (.im1 true, 2)
    | _ => (.im2 true, 2)
  | _ =>
    match y with
    | 0 => (.ldIA, 2)
    | 1 => (.ldRA, 2)
    | 2 => (.ldAI, 2)
    | 3 => (.ldAR, 2)
    | 4 => (.rrd, 2)
    | 5 => (.rld, 2)
    | _ => (.edNop op, 2)

/-- Table ED, `101 r d 0 kk`: the block instructions (R107). -/
def decodeED2 (op : Byte) (y z : Nat) : Instr :=
  match y, z with
  | 4, 0 => .ldi | 4, 1 => .cpi | 4, 2 => .ini | 4, 3 => .outi
  | 5, 0 => .ldd | 5, 1 => .cpd | 5, 2 => .ind | 5, 3 => .outd
  | 6, 0 => .ldir | 6, 1 => .cpir | 6, 2 => .inir | 6, 3 => .otir
  | 7, 0 => .lddr | 7, 1 => .cpdr | 7, 2 => .indr | 7, 3 => .otdr
  | _, _ => .edNop op

/-- Table ED: the entry of opcode `op` with the operand bytes `lo`, `hi` that follow it, and its length with the
0xED byte; an opcode no other row takes is the two-byte no-operation (R112). -/
def decodeED (op lo hi : Byte) : Instr × Nat :=
  match fieldX op with
  | 1 => decodeED1 op (fieldY op) (fieldZ op) (mkWord hi lo)
  | 2 => (decodeED2 op (fieldY op) (fieldZ op), 2)
  | _ => (.edNop op, 2)

/-- Rows of table XY with x = 0; lengths count the prefix. -/
def decodeXY0 (ii : IndexReg) (y z : Nat) (n m : Byte) : Option (Instr × Nat) :=
  match z with
  | 1 =>
    if y = 4 then some (.ldIiNn ii (mkWord m n), 4)
    else if y % 2 = 1 then some (.addIiPp ii (RPI.ofCode (y / 2)), 2)
    else none
  | 2 =>
    match y with
    | 4 => some (.ldAtNnIi ii (mkWord m n), 4)
    | 5 => some (.ldIiAtNn ii (mkWord m n), 4)
    | _ => none
  | 3 =>
    match y with
    | 4 => some (.incIi ii, 2)
    | 5 => some (.decIi ii, 2)
    | _ => none
  | 4 =>
    match PReg.ofCode y with
    | some p => some (.incP ii p, 2)
    | none => some (.incIdx ii n, 3)
  | 5 =>
    match PReg.ofCode y with
    | some p => some (.decP ii p, 2)
    | none => some (.decIdx ii n, 3)
  | 6 =>
    match PReg.ofCode y with
    | some p => some (.ldPN ii p n, 3)
    | none => some (.ldIdxN ii n m, 4)
  | _ => none

/-- Rows of table XY with x = 1: beside `(ii+d)`, H and L are the real ones (R108). -/
def decodeXY1 (ii : IndexReg) (y z : Nat) (d : Byte) : Option (Instr × Nat) :=
  match PReg.ofCode y, PReg.ofCode z, Reg8.ofCode y, Reg8.ofCode z with
  | some p, some p', _, _ => some (.ldPP ii p p', 2)
  | _, _, some r, none => some (.ldRIdx ii r d, 3)
  | _, _, none, some r' => some (.ldIdxR ii r' d, 3)
  | _, _, _, _ => none

/-- Rows of table XY with x = 2. -/
def decodeXY2 (ii : IndexReg) (y z : Nat) (d : Byte) : Option (Instr × Nat) :=
  match PReg.ofCode z with
  | some p => some (aluP y ii p, 2)
  | none => some (aluIdx y ii d, 3)

/-- Rows of table XY with x = 3. -/
def decodeXY3 (ii : IndexReg) (y z : Nat) : Option (Instr × Nat) :=
  match y, z with
  | 4, 1 => some (.popIi ii, 2)
  | 4, 3 => some (.exAtSPIi ii, 2)
  | 4, 5 => some (.pushIi ii, 2)
  | 5, 1 => some (.jpIi ii, 2)
  | 7, 1 => some (.ldSPIi ii, 2)
  | _, _ => none

/-- The specific row of table XY for opcode `op`, if there is one, with the two bytes that follow it. -/
def decodeXYRow (ii : IndexReg) (op n m : Byte) : Option (Instr × Nat) :=
  match fieldX op with
  | 0 => decodeXY0 ii (fieldY op) (fieldZ op) n m
  | 1 => decodeXY1 ii (fieldY op) (fieldZ op) n
  | 2 => decodeXY2 ii (fieldY op) (fieldZ op) n
  | _ => decodeXY3 ii (fieldY op) (fieldZ op)

/-- Table XY: the specific row, or the BASE entry behind an ignored prefix (R113). -/
def decodeXY (ii : IndexReg) (op n m : Byte) : Instr × Nat :=
  match decodeXYRow ii op n m with
  | some r => r
  | none => (.xyFallback ii (decodeBase op n m).1, (decodeBase op n m).2 + 1)

/-- Table XYCB (R110): the displacement before the opcode; the field z names the register that also takes the
result, and is ignored by BIT. -/
def decodeXYCB (ii : IndexReg) (d op : Byte) : Instr :=
  let b := BitVec.ofNat 3 (fieldY op)
  match fieldX op, Reg8.ofCode (fieldZ op) with
  | 0, some r => rotIdxR (fieldY op) ii d r
  | 0, none => rotIdx (fieldY op) ii d
  | 1, _ => .bitIdx ii d b (BitVec.ofNat 3 (fieldZ op))
  | 2, some r => .resIdxR ii d b r
  | 2, none => .resIdx ii d b
  | _, some r => .setIdxR ii d b r
  | _, none => .setIdx ii d b

/-! ## One item of the stream -/

/-- The item that starts with these four bytes, and how many of them it is (R102, R111). A DD or FD byte before DD,
FD or ED is an item of its own, the dropped prefix. -/
def decode4 (b0 b1 b2 b3 : Byte) : Instr × Nat :=
  match b0.toNat with
  | 0xCB => (decodeCB b1, 2)
  | 0xED => decodeED b1 b2 b3
  | _ =>
    match IndexReg.ofByte b0 with
    | none => decodeBase b0 b1 b2
    | some ii =>
      match b1.toNat with
      | 0xDD => (.prefixXY ii, 1)
      | 0xFD => (.prefixXY ii, 1)
      | 0xED => (.prefixXY ii, 1)
      | 0xCB => (decodeXYCB ii b2 b3, 4)
      | _ => decodeXY ii b1 b2 b3

/-- Why no instruction is read from some bytes. -/
inductive Reject where
  /-- There are no bytes. -/
  | noBytes
  /-- The bytes are the beginning of an instruction of `need` bytes. -/
  | truncated (need : Nat)
deriving DecidableEq, Repr

/-- A lead-in byte on its own: the rows `prefix CB`, `prefix ED`, `prefix DD/FD` (R527 to R529). -/
def leadIn (b : Byte) : Option Instr :=
  match b.toNat with
  | 0xCB => some .prefixCB
  | 0xED => some .prefixED
  | 0xDD => some (.prefixXY .ix)
  | 0xFD => some (.prefixXY .iy)
  | _ => none

/-- Byte `k` of a list, zero beyond its end. -/
def byteAt (bytes : List Byte) (k : Nat) : Byte := bytes.getD k 0

/-- `decode4` on the first bytes of a list, read as zeros beyond its end. -/
def decodePadded (bytes : List Byte) : Instr × Nat :=
  decode4 (byteAt bytes 0) (byteAt bytes 1) (byteAt bytes 2) (byteAt bytes 3)

/-- The first item of a list of bytes and the bytes after it. Every list long enough decodes (R115); a list that ends
inside an instruction is rejected by name, but for a lead-in byte alone, which has a row of its own. -/
def decode (bytes : List Byte) : Except Reject (Instr × List Byte) :=
  match bytes with
  | [] => .error .noBytes
  | b :: rest =>
    let r := decodePadded bytes
    if r.2 ≤ bytes.length then .ok (r.1, bytes.drop r.2)
    else
      match leadIn b, rest with
      | some i, [] => .ok (i, [])
      | _, _ => .error (.truncated r.2)

/-! ## The encoder, from the `encoding` column of spec/opcode_table.json -/

/-- `lo hi` (R109). -/
def encodeWord (nn : Word) : List Byte := [loByte nn, hiByte nn]

/-- A row of table CB. -/
def encodeCB (x y z : Nat) : List Byte := [0xCB, opByte x y z]

/-- A row of table ED without operand bytes. -/
def encodeED (x y z : Nat) : List Byte := [0xED, opByte x y z]

/-- A row of table XY without operand bytes. -/
def encodeXY (ii : IndexReg) (x y z : Nat) : List Byte := [ii.byte, opByte x y z]

/-- A row of table XYCB. -/
def encodeXYCB (ii : IndexReg) (d : Byte) (x y z : Nat) : List Byte := [ii.byte, 0xCB, d, opByte x y z]

/-- The bytes of a row in fetch order: its pattern with its fields filled in (R119); of a fallback, its prefix. -/
def encodeRow : Instr → List Byte
  | .ldRR y z => [opByte 1 y.code z.code]
  | .ldRN y n => [opByte 0 y.code 6, n]
  | .ldRAtHL y => [opByte 1 y.code 6]
  | .ldAtHLR z => [opByte 1 6 z.code]
  | .ldAtHLN n => [opByte 0 6 6, n]
  | .ldAAtBC => [0x0A]
  | .ldAAtDE => [0x1A]
  | .ldAAtNn nn => 0x3A :: encodeWord nn
  | .ldAtBCA => [0x02]
  | .ldAtDEA => [0x12]
  | .ldAtNnA nn => 0x32 :: encodeWord nn
  | .ldIA => [0xED, 0x47]
  | .ldRA => [0xED, 0x4F]
  | .ldAI => [0xED, 0x57]
  | .ldAR => [0xED, 0x5F]
  | .ldRIdx ii y d => encodeXY ii 1 y.code 6 ++ [d]
  | .ldIdxR ii z d => encodeXY ii 1 6 z.code ++ [d]
  | .ldIdxN ii d n => encodeXY ii 0 6 6 ++ [d, n]
  | .ldPP ii y z => encodeXY ii 1 y.code z.code
  | .ldPN ii y n => encodeXY ii 0 y.code 6 ++ [n]
  | .ldDdNn p nn => opByte 0 (p.code * 2) 1 :: encodeWord nn
  | .ldHLAtNn nn => 0x2A :: encodeWord nn
  | .ldAtNnHL nn => 0x22 :: encodeWord nn
  | .ldDdAtNn p nn => encodeED 1 (p.code * 2 + 1) 3 ++ encodeWord nn
  | .ldAtNnDd p nn => encodeED 1 (p.code * 2) 3 ++ encodeWord nn
  | .ldSPHL => [0xF9]
  | .pushQq p => [opByte 3 (p.code * 2) 5]
  | .popQq p => [opByte 3 (p.code * 2) 1]
  | .exDEHL => [0xEB]
  | .exAFAF => [0x08]
  | .exx => [0xD9]
  | .exAtSPHL => [0xE3]
  | .ldIiNn ii nn => [ii.byte, 0x21] ++ encodeWord nn
  | .ldIiAtNn ii nn => [ii.byte, 0x2A] ++ encodeWord nn
  | .ldAtNnIi ii nn => [ii.byte, 0x22] ++ encodeWord nn
  | .ldSPIi ii => [ii.byte, 0xF9]
  | .pushIi ii => [ii.byte, 0xE5]
  | .popIi ii => [ii.byte, 0xE1]
  | .exAtSPIi ii => [ii.byte, 0xE3]
  | .addR z => [opByte 2 0 z.code]
  | .addN n => [opByte 3 0 6, n]
  | .addAtHL => [opByte 2 0 6]
  | .addIdx ii d => encodeXY ii 2 0 6 ++ [d]
  | .addP ii z => encodeXY ii 2 0 z.code
  | .adcR z => [opByte 2 1 z.code]
  | .adcN n => [opByte 3 1 6, n]
  | .adcAtHL => [opByte 2 1 6]
  | .adcIdx ii d => encodeXY ii 2 1 6 ++ [d]
  | .adcP ii z => encodeXY ii 2 1 z.code
  | .subR z => [opByte 2 2 z.code]
  | .subN n => [opByte 3 2 6, n]
  | .subAtHL => [opByte 2 2 6]
  | .subIdx ii d => encodeXY ii 2 2 6 ++ [d]
  | .subP ii z => encodeXY ii 2 2 z.code
  | .sbcR z => [opByte 2 3 z.code]
  | .sbcN n => [opByte 3 3 6, n]
  | .sbcAtHL => [opByte 2 3 6]
  | .sbcIdx ii d => encodeXY ii 2 3 6 ++ [d]
  | .sbcP ii z => encodeXY ii 2 3 z.code
  | .andR z => [opByte 2 4 z.code]
  | .andN n => [opByte 3 4 6, n]
  | .andAtHL => [opByte 2 4 6]
  | .andIdx ii d => encodeXY ii 2 4 6 ++ [d]
  | .andP ii z => encodeXY ii 2 4 z.code
  | .xorR z => [opByte 2 5 z.code]
  | .xorN n => [opByte 3 5 6, n]
  | .xorAtHL => [opByte 2 5 6]
  | .xorIdx ii d => encodeXY ii 2 5 6 ++ [d]
  | .xorP ii z => encodeXY ii 2 5 z.code
  | .orR z => [opByte 2 6 z.code]
  | .orN n => [opByte 3 6 6, n]
  | .orAtHL => [opByte 2 6 6]
  | .orIdx ii d => encodeXY ii 2 6 6 ++ [d]
  | .orP ii z => encodeXY ii 2 6 z.code
  | .cpR z => [opByte 2 7 z.code]
  | .cpN n => [opByte 3 7 6, n]
  | .cpAtHL => [opByte 2 7 6]
  | .cpIdx ii d => encodeXY ii 2 7 6 ++ [d]
  | .cpP ii z => encodeXY ii 2 7 z.code
  | .incR y => [opByte 0 y.code 4]
  | .incAtHL => [0x34]
  | .decR y => [opByte 0 y.code 5]
  | .decAtHL => [0x35]
  | .incP ii y => encodeXY ii 0 y.code 4
  | .decP ii y => encodeXY ii 0 y.code 5
  | .incIdx ii d => [ii.byte, 0x34, d]
  | .decIdx ii d => [ii.byte, 0x35, d]
  | .daa => [0x27]
  | .cpl => [0x2F]
  | .neg x => encodeED 1 x.toNat 4
  | .scf => [0x37]
  | .ccf => [0x3F]
  | .addHLSs p => [opByte 0 (p.code * 2 + 1) 1]
  | .adcHLSs p => encodeED 1 (p.code * 2 + 1) 2
  | .sbcHLSs p => encodeED 1 (p.code * 2) 2
  | .incSs p => [opByte 0 (p.code * 2) 3]
  | .decSs p => [opByte 0 (p.code * 2 + 1) 3]
  | .addIiPp ii p => encodeXY ii 0 (p.code * 2 + 1) 1
  | .incIi ii => [ii.byte, 0x23]
  | .decIi ii => [ii.byte, 0x2B]
  | .rlca => [0x07]
  | .rrca => [0x0F]
  | .rla => [0x17]
  | .rra => [0x1F]
  | .rlcR z => encodeCB 0 0 z.code
  | .rlcAtHL => encodeCB 0 0 6
  | .rrcR z => encodeCB 0 1 z.code
  | .rrcAtHL => encodeCB 0 1 6
  | .rlR z => encodeCB 0 2 z.code
  | .rlAtHL => encodeCB 0 2 6
  | .rrR z => encodeCB 0 3 z.code
  | .rrAtHL => encodeCB 0 3 6
  | .slaR z => encodeCB 0 4 z.code
  | .slaAtHL => encodeCB 0 4 6
  | .sraR z => encodeCB 0 5 z.code
  | .sraAtHL => encodeCB 0 5 6
  | .sllR z => encodeCB 0 6 z.code
  | .sllAtHL => encodeCB 0 6 6
  | .srlR z => encodeCB 0 7 z.code
  | .srlAtHL => encodeCB 0 7 6
  | .bitR b z => encodeCB 1 b.toNat z.code
  | .bitAtHL b => encodeCB 1 b.toNat 6
  | .setR b z => encodeCB 3 b.toNat z.code
  | .setAtHL b => encodeCB 3 b.toNat 6
  | .resR b z => encodeCB 2 b.toNat z.code
  | .resAtHL b => encodeCB 2 b.toNat 6
  | .rld => [0xED, 0x6F]
  | .rrd => [0xED, 0x67]
  | .rlcIdx ii d => encodeXYCB ii d 0 0 6
  | .rlcIdxR ii d z => encodeXYCB ii d 0 0 z.code
  | .rrcIdx ii d => encodeXYCB ii d 0 1 6
  | .rrcIdxR ii d z => encodeXYCB ii d 0 1 z.code
  | .rlIdx ii d => encodeXYCB ii d 0 2 6
  | .rlIdxR ii d z => encodeXYCB ii d 0 2 z.code
  | .rrIdx ii d => encodeXYCB ii d 0 3 6
  | .rrIdxR ii d z => encodeXYCB ii d 0 3 z.code
  | .slaIdx ii d => encodeXYCB ii d 0 4 6
  | .slaIdxR ii d z => encodeXYCB ii d 0 4 z.code
  | .sraIdx ii d => encodeXYCB ii d 0 5 6
  | .sraIdxR ii d z => encodeXYCB ii d 0 5 z.code
  | .sllIdx ii d => encodeXYCB ii d 0 6 6
  | .sllIdxR ii d z => encodeXYCB ii d 0 6 z.code
  | .srlIdx ii d => encodeXYCB ii d 0 7 6
  | .srlIdxR ii d z => encodeXYCB ii d 0 7 z.code
  | .bitIdx ii d b x => encodeXYCB ii d 1 b.toNat x.toNat
  | .setIdx ii d b => encodeXYCB ii d 3 b.toNat 6
  | .setIdxR ii d b z => encodeXYCB ii d 3 b.toNat z.code
  | .resIdx ii d b => encodeXYCB ii d 2 b.toNat 6
  | .resIdxR ii d b z => encodeXYCB ii d 2 b.toNat z.code
  | .jpNn nn => 0xC3 :: encodeWord nn
  | .jpCcNn cc nn => opByte 3 cc.code 2 :: encodeWord nn
  | .jrE e => [0x18, e]
  | .jrCcE cc e => [opByte 0 (cc.code + 4) 0, e]
  | .jpHL => [0xE9]
  | .jpIi ii => [ii.byte, 0xE9]
  | .djnzE e => [0x10, e]
  | .callNn nn => 0xCD :: encodeWord nn
  | .callCcNn cc nn => opByte 3 cc.code 4 :: encodeWord nn
  | .ret => [0xC9]
  | .retCc cc => [opByte 3 cc.code 0]
  | .reti => [0xED, 0x4D]
  | .retn x => encodeED 1 x.toNat 5
  | .rstP t => [opByte 3 t.toNat 7]
  | .ldi => [0xED, 0xA0]
  | .ldir => [0xED, 0xB0]
  | .ldd => [0xED, 0xA8]
  | .lddr => [0xED, 0xB8]
  | .cpi => [0xED, 0xA1]
  | .cpir => [0xED, 0xB1]
  | .cpd => [0xED, 0xA9]
  | .cpdr => [0xED, 0xB9]
  | .inAN n => [0xDB, n]
  | .inRC y => encodeED 1 y.code 0
  | .inC => [0xED, 0x70]
  | .outNA n => [0xD3, n]
  | .outCR y => encodeED 1 y.code 1
  | .outC0 => [0xED, 0x71]
  | .ini => [0xED, 0xA2]
  | .inir => [0xED, 0xB2]
  | .ind => [0xED, 0xAA]
  | .indr => [0xED, 0xBA]
  | .outi => [0xED, 0xA3]
  | .otir => [0xED, 0xB3]
  | .outd => [0xED, 0xAB]
  | .otdr => [0xED, 0xBB]
  | .nop => [0x00]
  | .halt => [0x76]
  | .di => [0xF3]
  | .ei => [0xFB]
  | .im0 x5 x3 => encodeED 1 (x5.toNat * 4 + x3.toNat) 6
  | .im1 x5 => encodeED 1 (x5.toNat * 4 + 2) 6
  | .im2 x5 => encodeED 1 (x5.toNat * 4 + 3) 6
  | .prefixCB => [0xCB]
  | .prefixED => [0xED]
  | .prefixXY ii => [ii.byte]
  | .edNop x => [0xED, x]
  | .xyFallback ii _ => [ii.byte]

/-- The bytes of an instruction in fetch order; a fallback's prefix stands before its BASE instruction (R113). -/
def encode (i : Instr) : List Byte :=
  match i with
  | .xyFallback ii base => ii.byte :: encodeRow base
  | row => encodeRow row

/-! ## What the host asks of the decoder -/

/-- The bytes of a table word with the FIRST byte in the most significant place, as the `fixed` and `fields` entries
of spec/opcode_table.json number the bits (entry 13). -/
def bytesFirstHigh (k w : Nat) : List Byte :=
  (List.range k).map fun j => BitVec.ofNat 8 (w / 256 ^ (k - 1 - j))

/-- The bytes of a table word with the FIRST byte in the least significant place. -/
def bytesFirstLow (k w : Nat) : List Byte :=
  (List.range k).map fun j => BitVec.ofNat 8 (w / 256 ^ j)

/-- The bytes a table word of `nbits` bits stands for. DEDUCED (entry 13): first byte most significant; where these
bytes are not an instruction of exactly `nbits` bits and the other order's are, the other order. -/
def tableBytes (nbits w : Nat) : List Byte :=
  let k := nbits / 8
  let bs := bytesFirstHigh k w
  let cs := bytesFirstLow k w
  if (decodePadded bs).2 ≠ k ∧ (decodePadded cs).2 = k then cs else bs

/-- The instruction the decoder reads from a table word: from exactly the row's bytes where they are an instruction
or a lead-in byte, else with operand bytes of zeros after them. -/
def decodeTableWord (nbits w : Nat) : Option Instr :=
  match tableBytes nbits w with
  | [] => none
  | b :: rest =>
    match decode (b :: rest) with
    | .ok r => some r.1
    | .error _ => some (decodePadded (b :: rest)).1

end Sys2Proof
end

