-- ==== Sys2Proof/Machine/Fetch.lean ====
section
/-!
DEFINITION. Fetching the bytes of an instruction at PC (20_memory.md R73; 30_encoding.md R102, R111, R114), and
placing an instruction's bytes where the next step fetches.
-/

namespace Sys2Proof.Machine

/-- `FetchByte()` (R73): the byte the bus agent answers at PC, and PC past it, modulo 2^16. -/
def State.fetchByte (s : State) : Byte × State :=
  let m := s.bus.fetch s.pc
  (m.1, { s with pc := s.pc + 1, bus := m.2 })

/-- `FetchByte()  -- M1`: R counts the fetch (R27, R102, R114). -/
def State.fetchM1 (s : State) : Byte × State :=
  let m := s.fetchByte
  (m.1, { m.2 with r := bumpR s.r })

/-- `n` times `FetchByte()`: the bytes in order. -/
def State.fetchBytes (n : Nat) (s : State) : List Byte × State :=
  match n with
  | 0 => ([], s)
  | k + 1 =>
    let m := s.fetchByte
    let rest := State.fetchBytes k m.2
    (m.1 :: rest.1, rest.2)

/-- R after `n` M1 fetches (R27). -/
def bumpRTimes (n : Nat) (r : Byte) : Byte :=
  match n with
  | 0 => r
  | k + 1 => bumpRTimes k (bumpR r)

/-- A DD or FD byte (R102). -/
def isXYByte (b : Byte) : Bool := (IndexReg.ofByte b).isSome

/-- A lead-in byte: the byte after it is fetched with M1 too (R102, R114). -/
def isLeadByte (b : Byte) : Bool := b == 0xCB || b == 0xED || isXYByte b

/-- A DD or FD byte before this one is dropped (R111 a, b). -/
def dropsPrefix (b : Byte) : Bool := isXYByte b || b == 0xED

/-- The item is a DD or FD byte that R111 (a, b) drops. -/
def isDroppedPrefix : Instr → Bool
  | .prefixXY _ => true
  | _ => false

/-- How many M1 fetches an item that starts with byte `b0` has (R114): two after a lead-in byte, one for a BASE row
or a dropped prefix. -/
def m1Fetches (b0 : Byte) (i : Instr) : Nat :=
  if isDroppedPrefix i then 1 else if isLeadByte b0 then 2 else 1

/-- The instruction whose opcode bytes have been fetched: they fix its length, and its other bytes are fetched
without M1, "all before the instruction's first data access" (R102, D7). -/
def State.fetchOperands (opcode : List Byte) (s : State) : Instr × State :=
  let rest := s.fetchBytes ((decodePadded opcode).2 - opcode.length)
  ((decodePadded (opcode ++ rest.1)).1, rest.2)

/-- Stores bytes at rising addresses, with no bus operation: what a loader outside the machine does. -/
def Memory.place (m : Memory) (a : Word) (bytes : List Byte) : Memory :=
  match bytes with
  | [] => m
  | v :: rest => Memory.place (Memory.write m a v) (a + 1) rest

/-- Memory answers at an address with the byte it holds. -/
def MemAnswer.isMemory : MemAnswer → Bool
  | .ram => true
  | .rom => true
  | .fixed _ => false
  | .functions => false
  | .fails => false

/-- The four bytes from an address are answered by memory. -/
def Bus.holdsCode (b : Bus) (a : Word) : Bool :=
  (b.memAnswer a).isMemory && (b.memAnswer (a + 1)).isMemory && (b.memAnswer (a + 2)).isMemory
    && (b.memAnswer (a + 3)).isMemory

/-- RAM at exactly one address. -/
def ramAt (a : Word) : Region MemAnswer := { mask := 0xFFFF, first := a, last := a, answer := .ram }

/-- The bytes in memory from an address on, where memory must answer; no access fails or has failed. -/
def Bus.placeCode (b : Bus) (a : Word) (bytes : List Byte) : Bus :=
  { b with
    mem := Memory.place b.mem a bytes
    memMap := if b.holdsCode a then b.memMap else [ramAt a, ramAt (a + 1), ramAt (a + 2), ramAt (a + 3)] ++ b.memMap
    failsAt := none, failed := false }

/-- The bytes placed at PC, zeros after them up to the longest instruction, and no boundary event or bus failure
before they run: no halt, no pending non-maskable request, no maskable request that would be accepted (entry 13). -/
def State.placeInstruction (s : State) (bytes : List Byte) : State :=
  { s with
    bus := s.bus.placeCode s.pc (bytes ++ List.replicate (4 - bytes.length) 0)
    halted := false
    nmiPending := false
    intPending := if s.iff1 && !s.eiDelay then none else s.intPending }

end Sys2Proof.Machine
end

