-- ==== Sys2Proof/Machine/Execute.lean ====
section
/-!
DEFINITION. The body of one step, `ExecuteNextInstruction()` (60_exceptions.md R162; 30_encoding.md R102, R111;
20_memory.md R86).
-/

namespace Sys2Proof.Machine

/-- The access that `failsAt` names is among those made since `before` were recorded (R86; entry 6). -/
def Bus.madeFailing (before : Nat) (b : Bus) : Bool :=
  match b.failsAt with
  | none => false
  | some n => decide (before ≤ n) && decide (n < b.trace.length)

/-- A failing access "ends the step with the outcome `fault(bus)`" (R86, R170). -/
def guardBus (before : Nat) (r : Result) : Result :=
  match r with
  | .next s => if s.bus.failed || s.bus.madeFailing before then .fault .bus else .next s
  | .fault x => .fault x
  | .refused x => .refused x

/-- The instruction with these opcode bytes, its operand bytes fetched, is executed. -/
def runItem (before : Nat) (opcode : List Byte) (s : State) : Result :=
  let item := s.fetchOperands opcode
  guardBus before (exec item.1 item.2)

/-- R102 from the fetched byte `b` on. A DD or FD byte takes one of PREFIX_FUEL, and the step is stuck at the last
(entry 10); one before DD, FD or ED is dropped (R111). -/
def runItems (before fuel : Nat) (b : Byte) (s : State) : Result :=
  match fuel with
  | 0 => .fault .prefixChain
  | left + 1 =>
    match IndexReg.ofByte b with
    | some ii =>
      if left = 0 then
        match guardBus before (.next s) with
        | .next _ => .fault .prefixChain
        | .fault x => .fault x
        | .refused x => .refused x
      else
        let n := s.fetchM1
        if dropsPrefix n.1 then
          match exec (.prefixXY ii) n.2 with
          | .next s1 => runItems before left n.1 s1
          | .fault x => .fault x
          | .refused x => .refused x
        else runItem before [b, n.1] n.2
    | none =>
      if isLeadByte b then
        let n := s.fetchM1
        runItem before [b, n.1] n.2
      else runItem before [b] s

/-- The execution of one instruction with all its prefix bytes (R102). -/
def State.runInstruction (s : State) : Result :=
  let n := s.fetchM1
  runItems s.bus.trace.length Config.prefixFuel n.1 n.2

/-- The branches of R162 that accept no interrupt: `ei_delay` is cleared, then the halted step or an instruction. -/
def State.proceed (s : State) : Result :=
  let s1 := { s with eiDelay := false }
  if s1.halted then .next s1.haltedStep else s1.runInstruction

/-- A maskable request would be accepted now (R157). -/
def State.intAcceptable (s : State) : Bool := s.iff1 && !s.eiDelay

/-- One step (R162): the requests are sampled once, the non-maskable one first (R154). A machine whose bus has failed
is stopped (R86). -/
def stepBody (s : State) : Result :=
  let s0 := { s with tStates := 0 }
  let before := s0.bus.trace.length
  if s0.bus.failed then .fault .bus
  else if s0.nmiPending then guardBus before (.next s0.acceptNmi)
  else
    match s0.intPending with
    | some d => if s0.intAcceptable then guardBus before (s0.acceptInt d) else s0.proceed
    | none => s0.proceed

end Sys2Proof.Machine
end

