-- ==== Sys2Proof/Machine/Step.lean ====
section
/-!
DEFINITION. One step of the machine, and how an instruction is put where the next step fetches it.
-/

namespace Sys2Proof.Machine

/-- One call of `ExecuteNextInstruction()` (R7, R162). -/
def step : State → Host.Outcome State Fault Refusal := stepBody

/-- The instruction of a table word stored at PC, so that the next step runs it (entries 12, 13). -/
def State.withFetchWord (s : State) (nbits w : Nat) : State := s.placeInstruction (tableBytes nbits w)

end Sys2Proof.Machine
end

