-- ==== Sys2Proof/Safety.lean ====
section
/-!
DEFINITION. What the outside may do between two steps (60_exceptions.md R151, R152; 70_reset_and_hazards.md R200;
20_memory.md R81, R87), the states a machine can reach, and the invariant of the machine.
-/

namespace Sys2Proof.Machine

/-- Something the outside does between two steps; "never inside one" (R81, R151; entry 19). -/
inductive HostEvent where
  /-- `RequestNonMaskableInterrupt()` -/
  | requestNmi
  /-- `RequestMaskableInterrupt(d)` -/
  | requestInt (d : Byte)
  /-- `WithdrawMaskableInterrupt()` -/
  | withdrawInt
  /-- `Reset()` -/
  | reset
  /-- another agent writes a byte of memory -/
  | storeByte (a : Word) (v : Byte)
  /-- the bus agent has one more response for `PortRead` -/
  | portByte (v : Byte)
  /-- a device behind the bus agent changes the own state of the functions of BUS -/
  | deviceState (q : List Nat)
deriving DecidableEq, Repr

/-- The effect of an event. -/
def HostEvent.apply (ev : HostEvent) (s : State) : State :=
  match ev with
  | .requestNmi => s.requestNmi
  | .requestInt d => s.requestInt d
  | .withdrawInt => s.withdrawInt
  | .reset => s.resetCore
  | .storeByte a v => { s with bus := { s.bus with mem := Memory.write s.bus.mem a v } }
  | .portByte v => { s with bus := { s.bus with portIn := s.bus.portIn ++ [v] } }
  | .deviceState q => { s with bus := { s.bus with own := q } }

/-- The states that steps and events lead to from a given one. -/
inductive Reaches (s0 : State) : State → Prop where
  | start : Reaches s0 s0
  | step {s s' : State} : Reaches s0 s → step s = .next s' → Reaches s0 s'
  | event {s : State} (ev : HostEvent) : Reaches s0 s → Reaches s0 (ev.apply s)

/-- The invariant: memory is in its canonical form, and no access has failed (a failure ends the run, R86). -/
def State.Inv (s : State) : Prop := Memory.wf s.bus.mem = true ∧ s.bus.failed = false

/-- The next step goes on: it ends in neither fault nor refusal. -/
def State.GoesOn (s : State) : Prop := ∃ s', step s = .next s'

end Sys2Proof.Machine
end

