-- ==== Sys2Proof/Certificates/Slice0/Obligations.lean ====
section
/-!
DEFINITION. The statements for the provers. The vocabulary they share stands first, in `Sys2Proof.Claims`.
Every statement of what an instruction does is an equation for the WHOLE next state, so it is the instruction's frame
too: a field that is not written is as before. What an access does to the bus agent, whose state `bus` is, is the
statement `BusAgentAnswersByItsMap`: memory changes by a write to RAM and by nothing else.
-/

namespace Sys2Proof.Claims

open Sys2Proof.Machine

/-- `s` with `t` more T-states and the bus agent `b`. -/
def after (s : State) (t : Nat) (b : Bus) : State := { s with bus := b, tStates := s.tStates + t }

/-- The byte the bus agent answers to a read of `a` now. -/
def byteFrom (s : State) (a : Word) : Byte := (s.bus.read a).1

/-- The bus agent after that read. -/
def busAfterRead (s : State) (a : Word) : Bus := (s.bus.read a).2

/-- The word the bus agent answers to a read of `a` and then of `a + 1`: little-endian. -/
def wordFrom (s : State) (a : Word) : Word := mkWord ((s.bus.read a).2.read (a + 1)).1 (s.bus.read a).1

/-- The bus agent after those two reads. -/
def busAfterReads (s : State) (a : Word) : Bus := ((s.bus.read a).2.read (a + 1)).2

/-- The bus agent after a word is pushed below `sp`, high byte first. -/
def pushed (b : Bus) (sp v : Word) : Bus := (b.write (sp - 1) (hiByte v)).write (sp - 2) (loByte v)

/-- `i` completes in `u` with one write of `v` to `a` made; where `a` is RAM, it then holds `v`; every other byte of
memory is as before, and that one too where it is not RAM. -/
def StoresByte (i : Instr) (s : State) (a : Word) (v : Byte) (u : State) : Prop :=
  let t := { u with bus := u.bus.write a v }
  exec i s = .next t ∧ (s.bus.memAnswer a = .ram → t.peek a = v) ∧
    ∀ x, x ≠ a ∨ s.bus.memAnswer a ≠ .ram → t.peek x = s.peek x

/-- `t` holds the word `v` at `a` and `a + 1`, low byte first, where these are RAM; every other byte is as in `s`. -/
def WordStored (s t : State) (a v : Word) : Prop :=
  (s.bus.memAnswer a = .ram → t.peek a = loByte v) ∧ (s.bus.memAnswer (a + 1) = .ram → t.peek (a + 1) = hiByte v) ∧
  ∀ x, (x ≠ a ∨ s.bus.memAnswer a ≠ .ram) → (x ≠ a + 1 ∨ s.bus.memAnswer (a + 1) ≠ .ram) → t.peek x = s.peek x

/-- `i` completes in `u` with `v` written to `a` and `a + 1`, the low byte first. -/
def StoresWord (i : Instr) (s : State) (a v : Word) (u : State) : Prop :=
  let t := { u with bus := (u.bus.write a (loByte v)).write (a + 1) (hiByte v) }
  exec i s = .next t ∧ WordStored s t a v

/-- `i` completes in `u` with `v` written to `a` and `a + 1`, the high byte first. -/
def StoresWordHighFirst (i : Instr) (s : State) (a v : Word) (u : State) : Prop :=
  let t := { u with bus := (u.bus.write (a + 1) (hiByte v)).write a (loByte v) }
  exec i s = .next t ∧ WordStored s t a v

/-- An 8-bit result and a flag byte in A and F. -/
def acc (s : State) (r : Byte × Byte) : State := { s with a := r.1, f := r.2 }

/-- The address of `(ii+d)`. -/
def indexed (s : State) (ii : IndexReg) (d : Byte) : Word :=
  (match ii with | .ix => s.ix | .iy => s.iy) + d.signExtend 16

/-- The answer with a change made to its next state. -/
def mapNext (g : State → State) : Result → Result
  | .next s => .next (g s)
  | .fault x => .fault x
  | .refused x => .refused x

/-- The number of 1 bits among bits 7..0. -/
def ones (v : Byte) : Nat := ((List.range 8).filter fun k => bitOf v k).length

/-- S, Z and bits 5 and 3 of a flag byte are those of a result. -/
def ResultFlags (f res : Byte) : Prop :=
  bitOf f 7 = bitOf res 7 ∧ (bitOf f 6 = true ↔ res = 0) ∧ bitOf f 5 = bitOf res 5 ∧ bitOf f 3 = bitOf res 3

/-- P/V is even parity of a result. -/
def ParityFlag (f res : Byte) : Prop := bitOf f 2 = true ↔ ones res % 2 = 0

/-- The instruction itself, or the BASE instruction behind an ignored prefix. -/
def inner : Instr → Instr
  | .xyFallback _ base => base
  | i => i

/-- A lead-in byte's row. -/
def isLeadIn : Instr → Bool
  | .prefixCB | .prefixED | .prefixXY _ => true
  | _ => false

/-- Instructions whose rules say `Flags: none`; R31 lists them by file. -/
def keepsF : Instr → Bool
  | .ldRR _ _ | .ldRN _ _ | .ldRAtHL _ | .ldAtHLR _ | .ldAtHLN _ | .ldAAtBC | .ldAAtDE | .ldAAtNn _ | .ldAtBCA
  | .ldAtDEA | .ldAtNnA _ | .ldIA | .ldRA | .ldRIdx _ _ _ | .ldIdxR _ _ _ | .ldIdxN _ _ _ | .ldPP _ _ _
  | .ldPN _ _ _ => true
  | .ldDdNn _ _ | .ldHLAtNn _ | .ldAtNnHL _ | .ldDdAtNn _ _ | .ldAtNnDd _ _ | .ldSPHL | .pushQq _ | .exDEHL | .exx
  | .exAtSPHL | .ldIiNn _ _ | .ldIiAtNn _ _ | .ldAtNnIi _ _ | .ldSPIi _ | .pushIi _ | .popIi _ | .exAtSPIi _ => true
  | .popQq p => p != .af
  | .jpNn _ | .jpCcNn _ _ | .jrE _ | .jrCcE _ _ | .jpHL | .jpIi _ | .djnzE _ | .callNn _ | .callCcNn _ _ | .ret
  | .retCc _ | .reti | .retn _ | .rstP _ => true
  | .incSs _ | .decSs _ | .incIi _ | .decIi _ | .setR _ _ | .setAtHL _ | .resR _ _ | .resAtHL _ | .setIdx _ _ _
  | .setIdxR _ _ _ _ | .resIdx _ _ _ | .resIdxR _ _ _ _ | .outC0 | .edNop _ => true
  | .inAN _ | .outNA _ | .outCR _ | .nop | .halt | .di | .ei | .im0 _ _ | .im1 _ | .im2 _ => true
  | _ => false

/-- Instructions that write PC: jumps, calls, returns, restarts, and the repeating block instructions. -/
def writesPC : Instr → Bool
  | .jpNn _ | .jpCcNn _ _ | .jrE _ | .jrCcE _ _ | .jpHL | .jpIi _ | .djnzE _ | .callNn _ | .callCcNn _ _ | .ret
  | .retCc _ | .reti | .retn _ | .rstP _ => true
  | .ldir | .lddr | .cpir | .cpdr | .inir | .indr | .otir | .otdr => true
  | _ => false

/-- Instructions that read a port. -/
def readsPort : Instr → Bool
  | .inAN _ | .inRC _ | .inC | .ini | .inir | .ind | .indr => true
  | _ => false

/-- Instructions that write memory. -/
def stores : Instr → Bool
  | .ldAtHLR _ | .ldAtHLN _ | .ldAtBCA | .ldAtDEA | .ldAtNnA _ | .ldIdxR _ _ _ | .ldIdxN _ _ _ => true
  | .ldAtNnHL _ | .ldAtNnDd _ _ | .ldAtNnIi _ _ | .pushQq _ | .pushIi _ | .exAtSPHL | .exAtSPIi _ => true
  | .incAtHL | .incIdx _ _ | .decAtHL | .decIdx _ _ => true
  | .rlcAtHL | .rrcAtHL | .rlAtHL | .rrAtHL | .slaAtHL | .sraAtHL | .sllAtHL | .srlAtHL => true
  | .rlcIdx _ _ | .rrcIdx _ _ | .rlIdx _ _ | .rrIdx _ _ | .slaIdx _ _ | .sraIdx _ _ | .sllIdx _ _ | .srlIdx _ _ => true
  | .rlcIdxR _ _ _ | .rrcIdxR _ _ _ | .rlIdxR _ _ _ | .rrIdxR _ _ _ | .slaIdxR _ _ _ | .sraIdxR _ _ _
  | .sllIdxR _ _ _ | .srlIdxR _ _ _ => true
  | .setAtHL _ | .setIdx _ _ _ | .setIdxR _ _ _ _ | .resAtHL _ | .resIdx _ _ _ | .resIdxR _ _ _ _ | .rld | .rrd => true
  | .callNn _ | .callCcNn _ _ | .rstP _ | .ldi | .ldir | .ldd | .lddr | .ini | .inir | .ind | .indr => true
  | _ => false

/-- The bytes the bus agent answers to `n` fetches from an address on, in order, and the agent after them. -/
def fetched : Nat → Bus → Word → List Byte × Bus
  | 0, b, _ => ([], b)
  | n + 1, b, a =>
    let m := b.fetch a
    let rest := fetched n m.2 (a + 1)
    (m.1 :: rest.1, rest.2)

/-- Every address is answered by memory: RAM or ROM. -/
def PlainMemory (b : Bus) : Prop := ∀ a, b.memAnswer a = .ram ∨ b.memAnswer a = .rom

/-- No access of this bus agent can fail: none has failed, none is set to, and its functions answer where its maps name
them. -/
def Quiet (b : Bus) : Prop :=
  b.failed = false ∧ b.failsAt = none ∧ (∀ a, b.memAnswer a ≠ .fails) ∧ (∀ p, b.portAnswer p ≠ .fails) ∧
  (∀ a, b.memAnswer a = .functions → ∀ q,
    Config.busReadMemory q a ≠ none ∧ ∀ v, Config.busWriteMemory q a v ≠ none) ∧
  ∀ p, b.portAnswer p = .functions → ∀ q, Config.busReadPort q p ≠ none ∧ ∀ v, Config.busWritePort q p v ≠ none

/-- The 65536 bytes fetched from PC on are each 0xDD or 0xFD. -/
def Endless (s : State) : Prop := ∀ v ∈ (fetched 65536 s.bus s.pc).1, v = 0xDD ∨ v = 0xFD

/-- An access between `s` and the state `t` its step would leave has failed: the agent failed it, or it is the one that
`failsAt` names. -/
def FailedIn (s t : State) : Prop :=
  t.bus.failed = true ∨ ∃ n, s.bus.failsAt = some n ∧ s.bus.trace.length ≤ n ∧ n < t.bus.trace.length

/-- The step leaves `t`, but for a failing access, which ends it in `fault(bus)`. -/
def StepsTo (s t : State) : Prop :=
  (¬FailedIn s t → step s = .next t) ∧ (FailedIn s t → step s = .fault .bus)

/-- No interrupt is accepted at this boundary. -/
def NoAcceptance (s : State) : Prop :=
  s.nmiPending = false ∧ (s.intPending = none ∨ s.iff1 = false ∨ s.eiDelay = true)

end Sys2Proof.Claims

open Sys2Proof Sys2Proof.Machine Sys2Proof.Claims

/-- SZYX(v) and PAR(v), bit by bit. (R340) -/
def Obligations.SzyxAndParityBits : Prop :=
  ∀ v : Byte, ResultFlags (szyx v) v ∧
    bitOf (szyx v) 4 = false ∧ bitOf (szyx v) 2 = false ∧ bitOf (szyx v) 1 = false ∧ bitOf (szyx v) 0 = false ∧
    par v = if ones v % 2 = 0 then 0x04 else 0x00

/-- ADD8: the sum and every flag, P/V being signed overflow. (R341) -/
def Obligations.Add8ResultAndFlags : Prop :=
  ∀ (a b : Byte) (c : Bool),
    let res := (add8 a b c).1
    let f := (add8 a b c).2
    res = BitVec.ofNat 8 (a.toNat + b.toNat + c.toNat) ∧ ResultFlags f res ∧
    (bitOf f 4 = true ↔ a.toNat % 16 + b.toNat % 16 + c.toNat > 15) ∧
    (bitOf f 2 = (bitOf a 7 == bitOf b 7 && bitOf res 7 != bitOf a 7)) ∧
    (bitOf f 2 = true ↔ a.toInt + b.toInt + c.toNat < -128 ∨ 127 < a.toInt + b.toInt + c.toNat) ∧
    bitOf f 1 = false ∧
    (bitOf f 0 = true ↔ a.toNat + b.toNat + c.toNat > 255)

/-- SUB8: the difference and every flag, P/V being signed overflow. (R342) -/
def Obligations.Sub8ResultAndFlags : Prop :=
  ∀ (a b : Byte) (c : Bool),
    let res := (sub8 a b c).1
    let f := (sub8 a b c).2
    (res.toNat : Int) = ((a.toNat : Int) - b.toNat - c.toNat) % 256 ∧ ResultFlags f res ∧
    (bitOf f 4 = true ↔ a.toNat % 16 < b.toNat % 16 + c.toNat) ∧
    (bitOf f 2 = (bitOf a 7 != bitOf b 7 && bitOf res 7 != bitOf a 7)) ∧
    (bitOf f 2 = true ↔ a.toInt - b.toInt - c.toNat < -128 ∨ 127 < a.toInt - b.toInt - c.toNat) ∧
    bitOf f 1 = true ∧
    (bitOf f 0 = true ↔ a.toNat < b.toNat + c.toNat)

/-- CP8, AND8, OR8 and XOR8: results and every flag. (R343, R344) -/
def Obligations.CompareAndLogicFlags : Prop :=
  ∀ a b : Byte,
    (bitOf (cp8 a b) 7 = bitOf (sub8 a b false).2 7 ∧ bitOf (cp8 a b) 6 = bitOf (sub8 a b false).2 6 ∧
      bitOf (cp8 a b) 5 = bitOf b 5 ∧ bitOf (cp8 a b) 4 = bitOf (sub8 a b false).2 4 ∧
      bitOf (cp8 a b) 3 = bitOf b 3 ∧ bitOf (cp8 a b) 2 = bitOf (sub8 a b false).2 2 ∧
      bitOf (cp8 a b) 1 = bitOf (sub8 a b false).2 1 ∧ bitOf (cp8 a b) 0 = bitOf (sub8 a b false).2 0) ∧
    ((and8 a b).1 = a &&& b ∧ ResultFlags (and8 a b).2 (a &&& b) ∧ ParityFlag (and8 a b).2 (a &&& b) ∧
      bitOf (and8 a b).2 4 = true ∧ bitOf (and8 a b).2 1 = false ∧ bitOf (and8 a b).2 0 = false) ∧
    ((or8 a b).1 = a ||| b ∧ ResultFlags (or8 a b).2 (a ||| b) ∧ ParityFlag (or8 a b).2 (a ||| b) ∧
      bitOf (or8 a b).2 4 = false ∧ bitOf (or8 a b).2 1 = false ∧ bitOf (or8 a b).2 0 = false) ∧
    ((xor8 a b).1 = a ^^^ b ∧ ResultFlags (xor8 a b).2 (a ^^^ b) ∧ ParityFlag (xor8 a b).2 (a ^^^ b) ∧
      bitOf (xor8 a b).2 4 = false ∧ bitOf (xor8 a b).2 1 = false ∧ bitOf (xor8 a b).2 0 = false)

/-- INC8 and DEC8: results and every flag, C preserved. (R345) -/
def Obligations.IncDec8ResultAndFlags : Prop :=
  ∀ v f : Byte,
    ((inc8 v f).1 = v + 1 ∧ ResultFlags (inc8 v f).2 (v + 1) ∧ (bitOf (inc8 v f).2 4 = true ↔ v.toNat % 16 = 15) ∧
      (bitOf (inc8 v f).2 2 = true ↔ v + 1 = 0x80) ∧ bitOf (inc8 v f).2 1 = false ∧
      bitOf (inc8 v f).2 0 = bitOf f 0) ∧
    ((dec8 v f).1 = v - 1 ∧ ResultFlags (dec8 v f).2 (v - 1) ∧ (bitOf (dec8 v f).2 4 = true ↔ v.toNat % 16 = 0) ∧
      (bitOf (dec8 v f).2 2 = true ↔ v - 1 = 0x7F) ∧ bitOf (dec8 v f).2 1 = true ∧
      bitOf (dec8 v f).2 0 = bitOf f 0)

/-- DAA8: the correction, its direction and every flag. (R346) -/
def Obligations.Daa8ResultAndFlags : Prop :=
  ∀ a f : Byte,
    let res := (daa8 a f).1
    let g := (daa8 a f).2
    let low := a.toNat % 16
    let diff : Byte := (if bitOf f 4 = true ∨ low > 9 then 0x06 else 0) + (if bitOf f 0 = true ∨ a.toNat > 0x99 then 0x60 else 0)
    res = (if bitOf f 1 = true then a - diff else a + diff) ∧ ResultFlags g res ∧ ParityFlag g res ∧
    (bitOf g 0 = true ↔ bitOf f 0 = true ∨ a.toNat > 0x99) ∧ bitOf g 1 = bitOf f 1 ∧
    (bitOf f 1 = false → (bitOf g 4 = true ↔ low > 9)) ∧
    (bitOf f 1 = true → (bitOf g 4 = true ↔ bitOf f 4 = true ∧ low < 6))

/-- DAA after ADD8 or SUB8 of two packed BCD bytes gives the decimal result and carry. (R341, R342, R346, 42_alu8.md
R395) -/
def Obligations.DaaGivesTheDecimalSumAndDifference : Prop :=
  ∀ t u v w : Nat, t < 10 → u < 10 → v < 10 → w < 10 →
    let bcd := fun n : Nat => (BitVec.ofNat 8 (n / 10 % 10 * 16 + n % 10) : Byte)
    let sum := add8 (bcd (10 * t + u)) (bcd (10 * v + w)) false
    let dif := sub8 (bcd (10 * t + u)) (bcd (10 * v + w)) false
    (daa8 sum.1 sum.2).1 = bcd (10 * t + u + (10 * v + w)) ∧
    (bitOf (daa8 sum.1 sum.2).2 0 = true ↔ 100 ≤ 10 * t + u + (10 * v + w)) ∧
    (daa8 dif.1 dif.2).1 = bcd (100 + (10 * t + u) - (10 * v + w)) ∧
    (bitOf (daa8 dif.1 dif.2).2 0 = true ↔ 10 * t + u < 10 * v + w)

/-- ADD16: the sum, H, C, bits 5 and 3, with S, Z, P/V preserved. (R400) -/
def Obligations.Add16ResultAndFlags : Prop :=
  ∀ (a b : Word) (f : Byte),
    let res := (add16 a b f).1
    let g := (add16 a b f).2
    res = a + b ∧ bitOf g 7 = bitOf f 7 ∧ bitOf g 6 = bitOf f 6 ∧ bitOf g 5 = res.getLsbD 13 ∧
    (bitOf g 4 = true ↔ a.toNat % 4096 + b.toNat % 4096 > 4095) ∧ bitOf g 3 = res.getLsbD 11 ∧
    bitOf g 2 = bitOf f 2 ∧ bitOf g 1 = false ∧ (bitOf g 0 = true ↔ a.toNat + b.toNat > 0xFFFF)

/-- ADC16 and SBC16: results and all eight flags, P/V being signed 16-bit overflow. (R401) -/
def Obligations.AdcSbc16ResultAndFlags : Prop :=
  ∀ (a b : Word) (c : Bool),
    (let res := (adc16 a b c).1
     let f := (adc16 a b c).2
     res = BitVec.ofNat 16 (a.toNat + b.toNat + c.toNat) ∧ bitOf f 7 = res.getLsbD 15 ∧ (bitOf f 6 = true ↔ res = 0) ∧
     bitOf f 5 = res.getLsbD 13 ∧ (bitOf f 4 = true ↔ a.toNat % 4096 + b.toNat % 4096 + c.toNat > 4095) ∧
     bitOf f 3 = res.getLsbD 11 ∧
     (bitOf f 2 = (a.getLsbD 15 == b.getLsbD 15 && res.getLsbD 15 != a.getLsbD 15)) ∧
     (bitOf f 2 = true ↔ a.toInt + b.toInt + c.toNat < -32768 ∨ 32767 < a.toInt + b.toInt + c.toNat) ∧
     bitOf f 1 = false ∧ (bitOf f 0 = true ↔ a.toNat + b.toNat + c.toNat > 0xFFFF)) ∧
    (let res := (sbc16 a b c).1
     let f := (sbc16 a b c).2
     (res.toNat : Int) = ((a.toNat : Int) - b.toNat - c.toNat) % 65536 ∧ bitOf f 7 = res.getLsbD 15 ∧
     (bitOf f 6 = true ↔ res = 0) ∧ bitOf f 5 = res.getLsbD 13 ∧
     (bitOf f 4 = true ↔ a.toNat % 4096 < b.toNat % 4096 + c.toNat) ∧ bitOf f 3 = res.getLsbD 11 ∧
     (bitOf f 2 = (a.getLsbD 15 != b.getLsbD 15 && res.getLsbD 15 != a.getLsbD 15)) ∧
     (bitOf f 2 = true ↔ a.toInt - b.toInt - c.toNat < -32768 ∨ 32767 < a.toInt - b.toInt - c.toNat) ∧
     bitOf f 1 = true ∧ (bitOf f 0 = true ↔ a.toNat < b.toNat + c.toNat))

/-- ROT8 and ROTF: every result bit, the bit moved out, and every flag. (R410) -/
def Obligations.Rot8ResultAndFlags : Prop :=
  (∀ (v : Byte) (cin : Bool),
    (∀ op ∈ [RotOp.rlc, .rl, .sla, .sll], (rot8 op v cin).2 = bitOf v 7 ∧
      ∀ k < 7, bitOf (rot8 op v cin).1 (k + 1) = bitOf v k) ∧
    (∀ op ∈ [RotOp.rrc, .rr, .sra, .srl], (rot8 op v cin).2 = bitOf v 0 ∧
      ∀ k < 7, bitOf (rot8 op v cin).1 k = bitOf v (k + 1)) ∧
    bitOf (rot8 .rlc v cin).1 0 = bitOf v 7 ∧ bitOf (rot8 .rrc v cin).1 7 = bitOf v 0 ∧
    bitOf (rot8 .rl v cin).1 0 = cin ∧ bitOf (rot8 .rr v cin).1 7 = cin ∧
    bitOf (rot8 .sla v cin).1 0 = false ∧ bitOf (rot8 .sra v cin).1 7 = bitOf v 7 ∧
    bitOf (rot8 .sll v cin).1 0 = true ∧ bitOf (rot8 .srl v cin).1 7 = false) ∧
  (∀ (op : RotOp) (v f : Byte),
    let r := rot8 op v (bitOf f 0)
    (rotf op v f).1 = r.1 ∧ ResultFlags (rotf op v f).2 r.1 ∧ ParityFlag (rotf op v f).2 r.1 ∧
    bitOf (rotf op v f).2 4 = false ∧ bitOf (rotf op v f).2 1 = false ∧ bitOf (rotf op v f).2 0 = r.2)

/-- BITF: every flag of a bit test. (R411) -/
def Obligations.BitTestFlags : Prop :=
  ∀ (b : BitVec 3) (v yx f : Byte),
    let g := bitf b v yx f
    (bitOf g 6 = true ↔ bitOf v b.toNat = false) ∧ (bitOf g 2 = true ↔ bitOf v b.toNat = false) ∧
    bitOf g 7 = (b == 7 && bitOf v 7) ∧ bitOf g 4 = true ∧ bitOf g 1 = false ∧ bitOf g 0 = bitOf f 0 ∧
    bitOf g 5 = bitOf yx 5 ∧ bitOf g 3 = bitOf yx 3

/-- A pair reads (high << 8) | low, and writing it sets exactly its two bytes. (R21) -/
def Obligations.RegisterPairsAreViews : Prop :=
  ∀ (s : State) (p : Word),
    let join := fun hi lo : Byte => (hi.setWidth 16 <<< 8) ||| lo.setWidth 16
    let high : Byte := (p >>> 8).setWidth 8
    let low : Byte := (p &&& 0xFF).setWidth 8
    s.af = join s.a s.f ∧ s.bc = join s.b s.c ∧ s.de = join s.d s.e ∧ s.hl = join s.h s.l ∧
    s.setAF p = { s with a := high, f := low } ∧ (s.setAF p).af = p ∧
    s.setBC p = { s with b := high, c := low } ∧ (s.setBC p).bc = p ∧
    s.setDE p = { s with d := high, e := low } ∧ (s.setDE p).de = p ∧
    s.setHL p = { s with h := high, l := low } ∧ (s.setHL p).hl = p

/-- Each register selector reads and writes exactly the register its code names. (R104, R105, R108, R20, R23, R24) -/
def Obligations.SelectorsReadAndWriteTheNamedRegister : Prop :=
  ∀ (s : State) (ii : IndexReg) (v : Byte) (w : Word),
    let idx : Word := match ii with | .ix => s.ix | .iy => s.iy
    let half := fun x : Word => match ii with | .ix => { s with ix := x } | .iy => { s with iy := x }
    (s.getR .b = s.b ∧ s.getR .c = s.c ∧ s.getR .d = s.d ∧ s.getR .e = s.e ∧ s.getR .h = s.h ∧ s.getR .l = s.l ∧
      s.getR .a = s.a) ∧
    (s.setR .b v = { s with b := v } ∧ s.setR .c v = { s with c := v } ∧ s.setR .d v = { s with d := v } ∧
      s.setR .e v = { s with e := v } ∧ s.setR .h v = { s with h := v } ∧ s.setR .l v = { s with l := v } ∧
      s.setR .a v = { s with a := v }) ∧
    (s.getP ii .b = s.b ∧ s.getP ii .c = s.c ∧ s.getP ii .d = s.d ∧ s.getP ii .e = s.e ∧ s.getP ii .a = s.a ∧
      s.getP ii .iiH = hiByte idx ∧ s.getP ii .iiL = loByte idx) ∧
    (s.setP ii .b v = { s with b := v } ∧ s.setP ii .c v = { s with c := v } ∧ s.setP ii .d v = { s with d := v } ∧
      s.setP ii .e v = { s with e := v } ∧ s.setP ii .a v = { s with a := v } ∧
      s.setP ii .iiH v = half (mkWord v (loByte idx)) ∧ s.setP ii .iiL v = half (mkWord (hiByte idx) v)) ∧
    (s.getRP .bc = mkWord s.b s.c ∧ s.getRP .de = mkWord s.d s.e ∧ s.getRP .hl = mkWord s.h s.l ∧ s.getRP .sp = s.sp) ∧
    (s.setRP .bc w = { s with b := hiByte w, c := loByte w } ∧ s.setRP .de w = { s with d := hiByte w, e := loByte w } ∧
      s.setRP .hl w = { s with h := hiByte w, l := loByte w } ∧ s.setRP .sp w = { s with sp := w }) ∧
    (s.getRP2 .bc = mkWord s.b s.c ∧ s.getRP2 .de = mkWord s.d s.e ∧ s.getRP2 .hl = mkWord s.h s.l ∧
      s.getRP2 .af = mkWord s.a s.f) ∧
    (s.setRP2 .bc w = { s with b := hiByte w, c := loByte w } ∧ s.setRP2 .de w = { s with d := hiByte w, e := loByte w } ∧
      s.setRP2 .hl w = { s with h := hiByte w, l := loByte w } ∧ s.setRP2 .af w = { s with a := hiByte w, f := loByte w }) ∧
    (s.getRPI ii .bc = mkWord s.b s.c ∧ s.getRPI ii .de = mkWord s.d s.e ∧ s.getRPI ii .ii = idx ∧
      s.getRPI ii .sp = s.sp)

/-- push16 stores the high byte above the low one below SP; pop16 reads them back; SP wraps. (R89) -/
def Obligations.PushAndPopPrimitives : Prop :=
  ∀ (s : State) (v : Word),
    (let t := s.push16 v
     t = { s with sp := s.sp - 2, bus := pushed s.bus s.sp v } ∧ WordStored s t (s.sp - 2) v ∧
     (s.bus.memAnswer (s.sp - 2) = .ram → s.bus.memAnswer (s.sp - 1) = .ram → t.pop16.1 = v ∧ t.pop16.2.sp = s.sp)) ∧
    s.pop16 = (wordFrom s s.sp, { s with sp := s.sp + 2, bus := busAfterReads s s.sp }) ∧
    ∀ x, s.pop16.2.peek x = s.peek x

/-- The byte loads between registers, index halves, I and R, and of an immediate: only the destination changes, and F
for LD A,I and LD A,R. (40_load8.md R300, 40_load8.md R301, 40_load8.md R318, 40_load8.md R319, 40_load8.md R311,
40_load8.md R312, 40_load8.md R313, 40_load8.md R314, R26, R27, R31) -/
def Obligations.LoadRegisterForms : Prop :=
  ∀ (s : State) (y z : Reg8) (n : Byte) (ii : IndexReg) (p q : PReg),
    exec (.ldRR y z) s = .next (after (s.setR y (s.getR z)) 4 s.bus) ∧
    exec (.ldRN y n) s = .next (after (s.setR y n) 7 s.bus) ∧
    exec (.ldPP ii p q) s = .next (after (s.setP ii p (s.getP ii q)) 8 s.bus) ∧
    exec (.ldPN ii p n) s = .next (after (s.setP ii p n) 11 s.bus) ∧
    exec .ldIA s = .next (after { s with i := s.a } 9 s.bus) ∧
    exec .ldRA s = .next (after { s with r := s.a } 9 s.bus) ∧
    (∃ f, exec .ldAI s = .next (after { s with a := s.i, f := f } 9 s.bus) ∧ ResultFlags f s.i ∧ bitOf f 4 = false ∧
      bitOf f 2 = s.iff2 ∧ bitOf f 1 = false ∧ bitOf f 0 = bitOf s.f 0) ∧
    (∃ f, exec .ldAR s = .next (after { s with a := s.r, f := f } 9 s.bus) ∧ ResultFlags f s.r ∧ bitOf f 4 = false ∧
      bitOf f 2 = s.iff2 ∧ bitOf f 1 = false ∧ bitOf f 0 = bitOf s.f 0)

/-- The byte loads from (HL), (BC), (DE), (nn), (ii+d) read one byte into the destination. (40_load8.md R302,
40_load8.md R305, 40_load8.md R306, 40_load8.md R307, 40_load8.md R315, R31) -/
def Obligations.LoadByteFromMemoryForms : Prop :=
  ∀ (s : State) (y : Reg8) (nn : Word) (ii : IndexReg) (d : Byte),
    exec (.ldRAtHL y) s = .next (after (s.setR y (byteFrom s (mkWord s.h s.l))) 7 (busAfterRead s (mkWord s.h s.l))) ∧
    exec .ldAAtBC s = .next (after { s with a := byteFrom s (mkWord s.b s.c) } 7 (busAfterRead s (mkWord s.b s.c))) ∧
    exec .ldAAtDE s = .next (after { s with a := byteFrom s (mkWord s.d s.e) } 7 (busAfterRead s (mkWord s.d s.e))) ∧
    exec (.ldAAtNn nn) s = .next (after { s with a := byteFrom s nn } 13 (busAfterRead s nn)) ∧
    exec (.ldRIdx ii y d) s =
      .next (after (s.setR y (byteFrom s (indexed s ii d))) 19 (busAfterRead s (indexed s ii d)))

/-- The byte stores write exactly one byte at the operand address and leave every other byte and field. (40_load8.md
R303, 40_load8.md R304, 40_load8.md R308, 40_load8.md R309, 40_load8.md R310, 40_load8.md R316, 40_load8.md R317) -/
def Obligations.StoreByteForms : Prop :=
  ∀ (s : State) (z : Reg8) (nn : Word) (ii : IndexReg) (d n : Byte),
    StoresByte (.ldAtHLR z) s (mkWord s.h s.l) (s.getR z) (after s 7 s.bus) ∧
    StoresByte (.ldAtHLN n) s (mkWord s.h s.l) n (after s 10 s.bus) ∧
    StoresByte .ldAtBCA s (mkWord s.b s.c) s.a (after s 7 s.bus) ∧
    StoresByte .ldAtDEA s (mkWord s.d s.e) s.a (after s 7 s.bus) ∧
    StoresByte (.ldAtNnA nn) s nn s.a (after s 13 s.bus) ∧
    StoresByte (.ldIdxR ii z d) s (indexed s ii d) (s.getR z) (after s 19 s.bus) ∧
    StoresByte (.ldIdxN ii d n) s (indexed s ii d) n (after s 19 s.bus)

/-- LD dd,nn / LD ii,nn / LD SP,HL / LD SP,ii: the destination takes the word and nothing else changes.
(41_load16_stack_exchange.md R320, 41_load16_stack_exchange.md R325, 41_load16_stack_exchange.md R332,
41_load16_stack_exchange.md R335) -/
def Obligations.LoadWordRegisterForms : Prop :=
  ∀ (s : State) (p : RP) (ii : IndexReg) (nn : Word),
    exec (.ldDdNn p nn) s = .next (after (s.setRP p nn) 10 s.bus) ∧
    exec (.ldIiNn ii nn) s = .next (after (s.setIndex ii nn) 14 s.bus) ∧
    exec .ldSPHL s = .next (after { s with sp := mkWord s.h s.l } 6 s.bus) ∧
    exec (.ldSPIi .ix) s = .next (after { s with sp := s.ix } 10 s.bus) ∧
    exec (.ldSPIi .iy) s = .next (after { s with sp := s.iy } 10 s.bus)

/-- LD HL,(nn) / LD dd,(nn) / LD ii,(nn) / POP qq / POP ii read a little-endian word, low byte first.
(41_load16_stack_exchange.md R321, 41_load16_stack_exchange.md R323, 41_load16_stack_exchange.md R333,
41_load16_stack_exchange.md R327, 41_load16_stack_exchange.md R337, R74) -/
def Obligations.LoadWordFromMemoryForms : Prop :=
  ∀ (s : State) (p : RP) (q : RP2) (ii : IndexReg) (nn : Word),
    exec (.ldHLAtNn nn) s = .next (after { s with h := hiByte (wordFrom s nn), l := loByte (wordFrom s nn) } 16 (busAfterReads s nn)) ∧
    exec (.ldDdAtNn p nn) s = .next (after (s.setRP p (wordFrom s nn)) 20 (busAfterReads s nn)) ∧
    exec (.ldIiAtNn ii nn) s = .next (after (s.setIndex ii (wordFrom s nn)) 20 (busAfterReads s nn)) ∧
    exec (.popQq q) s = .next (after (State.setRP2 { s with sp := s.sp + 2 } q (wordFrom s s.sp)) 10 (busAfterReads s s.sp)) ∧
    exec (.popIi ii) s = .next (after (State.setIndex { s with sp := s.sp + 2 } ii (wordFrom s s.sp)) 14 (busAfterReads s s.sp))

/-- LD (nn),HL / LD (nn),dd / LD (nn),ii / PUSH qq / PUSH ii write exactly the two bytes of a word.
(41_load16_stack_exchange.md R322, 41_load16_stack_exchange.md R324, 41_load16_stack_exchange.md R334,
41_load16_stack_exchange.md R326, 41_load16_stack_exchange.md R336, R89) -/
def Obligations.StoreWordForms : Prop :=
  ∀ (s : State) (p : RP) (q : RP2) (ii : IndexReg) (nn : Word),
    StoresWord (.ldAtNnHL nn) s nn (mkWord s.h s.l) (after s 16 s.bus) ∧
    StoresWord (.ldAtNnDd p nn) s nn (s.getRP p) (after s 20 s.bus) ∧
    StoresWord (.ldAtNnIi ii nn) s nn (s.index ii) (after s 20 s.bus) ∧
    StoresWordHighFirst (.pushQq q) s (s.sp - 2) (s.getRP2 q)
      (after { s with sp := s.sp - 2 } 11 s.bus) ∧
    StoresWordHighFirst (.pushIi ii) s (s.sp - 2) (s.index ii)
      (after { s with sp := s.sp - 2 } 15 s.bus)

/-- EX DE,HL / EX AF,AF' / EXX / EX (SP),HL / EX (SP),ii swap exactly the named values. (41_load16_stack_exchange.md
R328, 41_load16_stack_exchange.md R329, 41_load16_stack_exchange.md R330, 41_load16_stack_exchange.md R331,
41_load16_stack_exchange.md R338, R22) -/
def Obligations.ExchangeForms : Prop :=
  ∀ (s : State),
    exec .exDEHL s = .next (after { s with d := s.h, e := s.l, h := s.d, l := s.e } 4 s.bus) ∧
    exec .exAFAF s = .next (after { s with a := s.a', f := s.f', a' := s.a, f' := s.f } 4 s.bus) ∧
    exec .exx s = .next (after { s with
      b := s.b', c := s.c', d := s.d', e := s.e', h := s.h', l := s.l'
      b' := s.b, c' := s.c, d' := s.d, e' := s.e, h' := s.h, l' := s.l } 4 s.bus) ∧
    StoresWordHighFirst .exAtSPHL s s.sp (mkWord s.h s.l)
      (after { s with h := hiByte (wordFrom s s.sp), l := loByte (wordFrom s s.sp) } 19 (busAfterReads s s.sp)) ∧
    StoresWordHighFirst (.exAtSPIi .ix) s s.sp s.ix
      (after { s with ix := wordFrom s s.sp } 23 (busAfterReads s s.sp)) ∧
    StoresWordHighFirst (.exAtSPIi .iy) s s.sp s.iy
      (after { s with iy := wordFrom s s.sp } 23 (busAfterReads s s.sp))

/-- ADD, ADC, SUB, SBC in all five operand forms: A and F from ADD8 or SUB8, nothing else changed. (42_alu8.md R347 to
R366, R341, R342) -/
def Obligations.AddSubtractForms : Prop :=
  ∀ (s : State) (z : Reg8) (n d : Byte) (ii : IndexReg) (q : PReg),
    exec (.addR z) s = .next (after (acc s (add8 s.a (s.getR z) false)) 4 s.bus) ∧
    exec (.addN n) s = .next (after (acc s (add8 s.a n false)) 7 s.bus) ∧
    exec .addAtHL s = .next (after (acc s (add8 s.a (byteFrom s (mkWord s.h s.l)) false)) 7 (busAfterRead s (mkWord s.h s.l))) ∧
    exec (.addIdx ii d) s = .next (after (acc s (add8 s.a (byteFrom s (indexed s ii d)) false)) 19 (busAfterRead s (indexed s ii d))) ∧
    exec (.addP ii q) s = .next (after (acc s (add8 s.a (s.getP ii q) false)) 8 s.bus) ∧
    exec (.adcR z) s = .next (after (acc s (add8 s.a (s.getR z) (bitOf s.f 0))) 4 s.bus) ∧
    exec (.adcN n) s = .next (after (acc s (add8 s.a n (bitOf s.f 0))) 7 s.bus) ∧
    exec .adcAtHL s = .next (after (acc s (add8 s.a (byteFrom s (mkWord s.h s.l)) (bitOf s.f 0))) 7 (busAfterRead s (mkWord s.h s.l))) ∧
    exec (.adcIdx ii d) s = .next (after (acc s (add8 s.a (byteFrom s (indexed s ii d)) (bitOf s.f 0))) 19 (busAfterRead s (indexed s ii d))) ∧
    exec (.adcP ii q) s = .next (after (acc s (add8 s.a (s.getP ii q) (bitOf s.f 0))) 8 s.bus) ∧
    exec (.subR z) s = .next (after (acc s (sub8 s.a (s.getR z) false)) 4 s.bus) ∧
    exec (.subN n) s = .next (after (acc s (sub8 s.a n false)) 7 s.bus) ∧
    exec .subAtHL s = .next (after (acc s (sub8 s.a (byteFrom s (mkWord s.h s.l)) false)) 7 (busAfterRead s (mkWord s.h s.l))) ∧
    exec (.subIdx ii d) s = .next (after (acc s (sub8 s.a (byteFrom s (indexed s ii d)) false)) 19 (busAfterRead s (indexed s ii d))) ∧
    exec (.subP ii q) s = .next (after (acc s (sub8 s.a (s.getP ii q) false)) 8 s.bus) ∧
    exec (.sbcR z) s = .next (after (acc s (sub8 s.a (s.getR z) (bitOf s.f 0))) 4 s.bus) ∧
    exec (.sbcN n) s = .next (after (acc s (sub8 s.a n (bitOf s.f 0))) 7 s.bus) ∧
    exec .sbcAtHL s = .next (after (acc s (sub8 s.a (byteFrom s (mkWord s.h s.l)) (bitOf s.f 0))) 7 (busAfterRead s (mkWord s.h s.l))) ∧
    exec (.sbcIdx ii d) s = .next (after (acc s (sub8 s.a (byteFrom s (indexed s ii d)) (bitOf s.f 0))) 19 (busAfterRead s (indexed s ii d))) ∧
    exec (.sbcP ii q) s = .next (after (acc s (sub8 s.a (s.getP ii q) (bitOf s.f 0))) 8 s.bus)

/-- AND, XOR, OR, CP in all five operand forms: A and F from the function of the rule, A kept by CP. (42_alu8.md R367
to R386, R343, R344) -/
def Obligations.LogicAndCompareForms : Prop :=
  ∀ (s : State) (z : Reg8) (n d : Byte) (ii : IndexReg) (q : PReg),
    exec (.andR z) s = .next (after (acc s (and8 s.a (s.getR z))) 4 s.bus) ∧
    exec (.andN n) s = .next (after (acc s (and8 s.a n)) 7 s.bus) ∧
    exec .andAtHL s = .next (after (acc s (and8 s.a (byteFrom s (mkWord s.h s.l)))) 7 (busAfterRead s (mkWord s.h s.l))) ∧
    exec (.andIdx ii d) s = .next (after (acc s (and8 s.a (byteFrom s (indexed s ii d)))) 19 (busAfterRead s (indexed s ii d))) ∧
    exec (.andP ii q) s = .next (after (acc s (and8 s.a (s.getP ii q))) 8 s.bus) ∧
    exec (.xorR z) s = .next (after (acc s (xor8 s.a (s.getR z))) 4 s.bus) ∧
    exec (.xorN n) s = .next (after (acc s (xor8 s.a n)) 7 s.bus) ∧
    exec .xorAtHL s = .next (after (acc s (xor8 s.a (byteFrom s (mkWord s.h s.l)))) 7 (busAfterRead s (mkWord s.h s.l))) ∧
    exec (.xorIdx ii d) s = .next (after (acc s (xor8 s.a (byteFrom s (indexed s ii d)))) 19 (busAfterRead s (indexed s ii d))) ∧
    exec (.xorP ii q) s = .next (after (acc s (xor8 s.a (s.getP ii q))) 8 s.bus) ∧
    exec (.orR z) s = .next (after (acc s (or8 s.a (s.getR z))) 4 s.bus) ∧
    exec (.orN n) s = .next (after (acc s (or8 s.a n)) 7 s.bus) ∧
    exec .orAtHL s = .next (after (acc s (or8 s.a (byteFrom s (mkWord s.h s.l)))) 7 (busAfterRead s (mkWord s.h s.l))) ∧
    exec (.orIdx ii d) s = .next (after (acc s (or8 s.a (byteFrom s (indexed s ii d)))) 19 (busAfterRead s (indexed s ii d))) ∧
    exec (.orP ii q) s = .next (after (acc s (or8 s.a (s.getP ii q))) 8 s.bus) ∧
    exec (.cpR z) s = .next (after (acc s (s.a, cp8 s.a (s.getR z))) 4 s.bus) ∧
    exec (.cpN n) s = .next (after (acc s (s.a, cp8 s.a n)) 7 s.bus) ∧
    exec .cpAtHL s = .next (after (acc s (s.a, cp8 s.a (byteFrom s (mkWord s.h s.l)))) 7 (busAfterRead s (mkWord s.h s.l))) ∧
    exec (.cpIdx ii d) s = .next (after (acc s (s.a, cp8 s.a (byteFrom s (indexed s ii d)))) 19 (busAfterRead s (indexed s ii d))) ∧
    exec (.cpP ii q) s = .next (after (acc s (s.a, cp8 s.a (s.getP ii q))) 8 s.bus)

/-- INC and DEC of a register, an index half, (HL) and (ii+d): INC8 or DEC8 of the operand and F. (42_alu8.md R387 to
R394, R345) -/
def Obligations.IncrementDecrementByteForms : Prop :=
  ∀ (s : State) (y : Reg8) (ii : IndexReg) (q : PReg) (d : Byte),
    exec (.incR y) s = .next (after (State.setR { s with f := (inc8 (s.getR y) s.f).2 } y (inc8 (s.getR y) s.f).1) 4 s.bus) ∧
    exec (.incP ii q) s =
      .next (after (State.setP { s with f := (inc8 (s.getP ii q) s.f).2 } ii q (inc8 (s.getP ii q) s.f).1) 8 s.bus) ∧
    StoresByte .incAtHL s (mkWord s.h s.l) (inc8 (byteFrom s (mkWord s.h s.l)) s.f).1
      (after { s with f := (inc8 (byteFrom s (mkWord s.h s.l)) s.f).2 } 11 (busAfterRead s (mkWord s.h s.l))) ∧
    StoresByte (.incIdx ii d) s (indexed s ii d) (inc8 (byteFrom s (indexed s ii d)) s.f).1
      (after { s with f := (inc8 (byteFrom s (indexed s ii d)) s.f).2 } 23 (busAfterRead s (indexed s ii d))) ∧
    exec (.decR y) s = .next (after (State.setR { s with f := (dec8 (s.getR y) s.f).2 } y (dec8 (s.getR y) s.f).1) 4 s.bus) ∧
    exec (.decP ii q) s =
      .next (after (State.setP { s with f := (dec8 (s.getP ii q) s.f).2 } ii q (dec8 (s.getP ii q) s.f).1) 8 s.bus) ∧
    StoresByte .decAtHL s (mkWord s.h s.l) (dec8 (byteFrom s (mkWord s.h s.l)) s.f).1
      (after { s with f := (dec8 (byteFrom s (mkWord s.h s.l)) s.f).2 } 11 (busAfterRead s (mkWord s.h s.l))) ∧
    StoresByte (.decIdx ii d) s (indexed s ii d) (dec8 (byteFrom s (indexed s ii d)) s.f).1
      (after { s with f := (dec8 (byteFrom s (indexed s ii d)) s.f).2 } 23 (busAfterRead s (indexed s ii d)))

/-- DAA, CPL, NEG, SCF, CCF: A and F as the rules give them. (42_alu8.md R395 to R399, R342, R346, 92_eei_decisions.md
D17) -/
def Obligations.AccumulatorAndFlagInstructions : Prop :=
  ∀ (s : State) (x : BitVec 3),
    exec .daa s = .next (after (acc s (daa8 s.a s.f)) 4 s.bus) ∧
    exec (.neg x) s = .next (after (acc s (sub8 0 s.a false)) 8 s.bus) ∧
    (∃ f, exec .cpl s = .next (after { s with a := ~~~s.a, f := f } 4 s.bus) ∧ bitOf f 7 = bitOf s.f 7 ∧
      bitOf f 6 = bitOf s.f 6 ∧ bitOf f 5 = bitOf (~~~s.a) 5 ∧ bitOf f 4 = true ∧ bitOf f 3 = bitOf (~~~s.a) 3 ∧
      bitOf f 2 = bitOf s.f 2 ∧ bitOf f 1 = true ∧ bitOf f 0 = bitOf s.f 0) ∧
    (∃ f, exec .scf s = .next (after { s with f := f } 4 s.bus) ∧ bitOf f 7 = bitOf s.f 7 ∧ bitOf f 6 = bitOf s.f 6 ∧
      bitOf f 5 = bitOf s.a 5 ∧ bitOf f 4 = false ∧ bitOf f 3 = bitOf s.a 3 ∧ bitOf f 2 = bitOf s.f 2 ∧
      bitOf f 1 = false ∧ bitOf f 0 = true) ∧
    (∃ f, exec .ccf s = .next (after { s with f := f } 4 s.bus) ∧ bitOf f 7 = bitOf s.f 7 ∧ bitOf f 6 = bitOf s.f 6 ∧
      bitOf f 5 = bitOf s.a 5 ∧ bitOf f 4 = bitOf s.f 0 ∧ bitOf f 3 = bitOf s.a 3 ∧ bitOf f 2 = bitOf s.f 2 ∧
      bitOf f 1 = false ∧ bitOf f 0 = !bitOf s.f 0)

/-- ADD HL,ss / ADC HL,ss / SBC HL,ss / INC ss / DEC ss and the index forms. (43_alu16.md R402 to R409, R400, R401) -/
def Obligations.Arithmetic16Forms : Prop :=
  ∀ (s : State) (p : RP) (ii : IndexReg) (r : RPI),
    exec (.addHLSs p) s =
      .next (after (State.setHL { s with f := (add16 (mkWord s.h s.l) (s.getRP p) s.f).2 } (add16 (mkWord s.h s.l) (s.getRP p) s.f).1) 11 s.bus) ∧
    exec (.adcHLSs p) s =
      .next (after (State.setHL { s with f := (adc16 (mkWord s.h s.l) (s.getRP p) (bitOf s.f 0)).2 }
        (adc16 (mkWord s.h s.l) (s.getRP p) (bitOf s.f 0)).1) 15 s.bus) ∧
    exec (.sbcHLSs p) s =
      .next (after (State.setHL { s with f := (sbc16 (mkWord s.h s.l) (s.getRP p) (bitOf s.f 0)).2 }
        (sbc16 (mkWord s.h s.l) (s.getRP p) (bitOf s.f 0)).1) 15 s.bus) ∧
    exec (.incSs p) s = .next (after (s.setRP p (s.getRP p + 1)) 6 s.bus) ∧
    exec (.decSs p) s = .next (after (s.setRP p (s.getRP p - 1)) 6 s.bus) ∧
    exec (.addIiPp ii r) s =
      .next (after (State.setIndex { s with f := (add16 (s.index ii) (s.getRPI ii r) s.f).2 } ii
        (add16 (s.index ii) (s.getRPI ii r) s.f).1) 15 s.bus) ∧
    exec (.incIi ii) s = .next (after (s.setIndex ii (s.index ii + 1)) 10 s.bus) ∧
    exec (.decIi ii) s = .next (after (s.setIndex ii (s.index ii - 1)) 10 s.bus)

/-- RLCA, RRCA, RLA, RRA and the eight rotates and shifts of a register. (44_rotate_shift_bit.md R412 to R430, R410) -/
def Obligations.RotateRegisterForms : Prop :=
  ∀ (s : State) (z : Reg8),
    exec (.rlcR z) s = .next (after (State.setR { s with f := (rotf .rlc (s.getR z) s.f).2 } z (rotf .rlc (s.getR z) s.f).1) 8 s.bus) ∧
    exec (.rrcR z) s = .next (after (State.setR { s with f := (rotf .rrc (s.getR z) s.f).2 } z (rotf .rrc (s.getR z) s.f).1) 8 s.bus) ∧
    exec (.rlR z) s = .next (after (State.setR { s with f := (rotf .rl (s.getR z) s.f).2 } z (rotf .rl (s.getR z) s.f).1) 8 s.bus) ∧
    exec (.rrR z) s = .next (after (State.setR { s with f := (rotf .rr (s.getR z) s.f).2 } z (rotf .rr (s.getR z) s.f).1) 8 s.bus) ∧
    exec (.slaR z) s = .next (after (State.setR { s with f := (rotf .sla (s.getR z) s.f).2 } z (rotf .sla (s.getR z) s.f).1) 8 s.bus) ∧
    exec (.sraR z) s = .next (after (State.setR { s with f := (rotf .sra (s.getR z) s.f).2 } z (rotf .sra (s.getR z) s.f).1) 8 s.bus) ∧
    exec (.sllR z) s = .next (after (State.setR { s with f := (rotf .sll (s.getR z) s.f).2 } z (rotf .sll (s.getR z) s.f).1) 8 s.bus) ∧
    exec (.srlR z) s = .next (after (State.setR { s with f := (rotf .srl (s.getR z) s.f).2 } z (rotf .srl (s.getR z) s.f).1) 8 s.bus) ∧
    (∀ p ∈ [(Instr.rlca, RotOp.rlc), (.rrca, .rrc), (.rla, .rl), (.rra, .rr)],
      let r := rot8 p.2 s.a (bitOf s.f 0)
      ∃ f, exec p.1 s = .next (after { s with a := r.1, f := f } 4 s.bus) ∧ bitOf f 7 = bitOf s.f 7 ∧
        bitOf f 6 = bitOf s.f 6 ∧ bitOf f 5 = bitOf r.1 5 ∧ bitOf f 4 = false ∧ bitOf f 3 = bitOf r.1 3 ∧
        bitOf f 2 = bitOf s.f 2 ∧ bitOf f 1 = false ∧ bitOf f 0 = r.2)

/-- The rotates and shifts of (HL) and (ii+d), and the forms that also copy the result to a register.
(44_rotate_shift_bit.md R417 to R455, R410, R110) -/
def Obligations.RotateMemoryForms : Prop :=
  ∀ (s : State) (ii : IndexReg) (d : Byte) (z : Reg8),
    StoresByte .rlcAtHL s (mkWord s.h s.l) (rotf .rlc (byteFrom s (mkWord s.h s.l)) s.f).1
      (after { s with f := (rotf .rlc (byteFrom s (mkWord s.h s.l)) s.f).2 } 15 (busAfterRead s (mkWord s.h s.l))) ∧
    StoresByte .rrcAtHL s (mkWord s.h s.l) (rotf .rrc (byteFrom s (mkWord s.h s.l)) s.f).1
      (after { s with f := (rotf .rrc (byteFrom s (mkWord s.h s.l)) s.f).2 } 15 (busAfterRead s (mkWord s.h s.l))) ∧
    StoresByte .rlAtHL s (mkWord s.h s.l) (rotf .rl (byteFrom s (mkWord s.h s.l)) s.f).1
      (after { s with f := (rotf .rl (byteFrom s (mkWord s.h s.l)) s.f).2 } 15 (busAfterRead s (mkWord s.h s.l))) ∧
    StoresByte .rrAtHL s (mkWord s.h s.l) (rotf .rr (byteFrom s (mkWord s.h s.l)) s.f).1
      (after { s with f := (rotf .rr (byteFrom s (mkWord s.h s.l)) s.f).2 } 15 (busAfterRead s (mkWord s.h s.l))) ∧
    StoresByte .slaAtHL s (mkWord s.h s.l) (rotf .sla (byteFrom s (mkWord s.h s.l)) s.f).1
      (after { s with f := (rotf .sla (byteFrom s (mkWord s.h s.l)) s.f).2 } 15 (busAfterRead s (mkWord s.h s.l))) ∧
    StoresByte .sraAtHL s (mkWord s.h s.l) (rotf .sra (byteFrom s (mkWord s.h s.l)) s.f).1
      (after { s with f := (rotf .sra (byteFrom s (mkWord s.h s.l)) s.f).2 } 15 (busAfterRead s (mkWord s.h s.l))) ∧
    StoresByte .sllAtHL s (mkWord s.h s.l) (rotf .sll (byteFrom s (mkWord s.h s.l)) s.f).1
      (after { s with f := (rotf .sll (byteFrom s (mkWord s.h s.l)) s.f).2 } 15 (busAfterRead s (mkWord s.h s.l))) ∧
    StoresByte .srlAtHL s (mkWord s.h s.l) (rotf .srl (byteFrom s (mkWord s.h s.l)) s.f).1
      (after { s with f := (rotf .srl (byteFrom s (mkWord s.h s.l)) s.f).2 } 15 (busAfterRead s (mkWord s.h s.l))) ∧
    StoresByte (.rlcIdx ii d) s (indexed s ii d) (rotf .rlc (byteFrom s (indexed s ii d)) s.f).1
      (after { s with f := (rotf .rlc (byteFrom s (indexed s ii d)) s.f).2 } 23 (busAfterRead s (indexed s ii d))) ∧
    StoresByte (.rrcIdx ii d) s (indexed s ii d) (rotf .rrc (byteFrom s (indexed s ii d)) s.f).1
      (after { s with f := (rotf .rrc (byteFrom s (indexed s ii d)) s.f).2 } 23 (busAfterRead s (indexed s ii d))) ∧
    StoresByte (.rlIdx ii d) s (indexed s ii d) (rotf .rl (byteFrom s (indexed s ii d)) s.f).1
      (after { s with f := (rotf .rl (byteFrom s (indexed s ii d)) s.f).2 } 23 (busAfterRead s (indexed s ii d))) ∧
    StoresByte (.rrIdx ii d) s (indexed s ii d) (rotf .rr (byteFrom s (indexed s ii d)) s.f).1
      (after { s with f := (rotf .rr (byteFrom s (indexed s ii d)) s.f).2 } 23 (busAfterRead s (indexed s ii d))) ∧
    StoresByte (.slaIdx ii d) s (indexed s ii d) (rotf .sla (byteFrom s (indexed s ii d)) s.f).1
      (after { s with f := (rotf .sla (byteFrom s (indexed s ii d)) s.f).2 } 23 (busAfterRead s (indexed s ii d))) ∧
    StoresByte (.sraIdx ii d) s (indexed s ii d) (rotf .sra (byteFrom s (indexed s ii d)) s.f).1
      (after { s with f := (rotf .sra (byteFrom s (indexed s ii d)) s.f).2 } 23 (busAfterRead s (indexed s ii d))) ∧
    StoresByte (.sllIdx ii d) s (indexed s ii d) (rotf .sll (byteFrom s (indexed s ii d)) s.f).1
      (after { s with f := (rotf .sll (byteFrom s (indexed s ii d)) s.f).2 } 23 (busAfterRead s (indexed s ii d))) ∧
    StoresByte (.srlIdx ii d) s (indexed s ii d) (rotf .srl (byteFrom s (indexed s ii d)) s.f).1
      (after { s with f := (rotf .srl (byteFrom s (indexed s ii d)) s.f).2 } 23 (busAfterRead s (indexed s ii d))) ∧
    StoresByte (.rlcIdxR ii d z) s (indexed s ii d) (rotf .rlc (byteFrom s (indexed s ii d)) s.f).1
      (after (State.setR { s with f := (rotf .rlc (byteFrom s (indexed s ii d)) s.f).2 } z (rotf .rlc (byteFrom s (indexed s ii d)) s.f).1) 23 (busAfterRead s (indexed s ii d))) ∧
    StoresByte (.rrcIdxR ii d z) s (indexed s ii d) (rotf .rrc (byteFrom s (indexed s ii d)) s.f).1
      (after (State.setR { s with f := (rotf .rrc (byteFrom s (indexed s ii d)) s.f).2 } z (rotf .rrc (byteFrom s (indexed s ii d)) s.f).1) 23 (busAfterRead s (indexed s ii d))) ∧
    StoresByte (.rlIdxR ii d z) s (indexed s ii d) (rotf .rl (byteFrom s (indexed s ii d)) s.f).1
      (after (State.setR { s with f := (rotf .rl (byteFrom s (indexed s ii d)) s.f).2 } z (rotf .rl (byteFrom s (indexed s ii d)) s.f).1) 23 (busAfterRead s (indexed s ii d))) ∧
    StoresByte (.rrIdxR ii d z) s (indexed s ii d) (rotf .rr (byteFrom s (indexed s ii d)) s.f).1
      (after (State.setR { s with f := (rotf .rr (byteFrom s (indexed s ii d)) s.f).2 } z (rotf .rr (byteFrom s (indexed s ii d)) s.f).1) 23 (busAfterRead s (indexed s ii d))) ∧
    StoresByte (.slaIdxR ii d z) s (indexed s ii d) (rotf .sla (byteFrom s (indexed s ii d)) s.f).1
      (after (State.setR { s with f := (rotf .sla (byteFrom s (indexed s ii d)) s.f).2 } z (rotf .sla (byteFrom s (indexed s ii d)) s.f).1) 23 (busAfterRead s (indexed s ii d))) ∧
    StoresByte (.sraIdxR ii d z) s (indexed s ii d) (rotf .sra (byteFrom s (indexed s ii d)) s.f).1
      (after (State.setR { s with f := (rotf .sra (byteFrom s (indexed s ii d)) s.f).2 } z (rotf .sra (byteFrom s (indexed s ii d)) s.f).1) 23 (busAfterRead s (indexed s ii d))) ∧
    StoresByte (.sllIdxR ii d z) s (indexed s ii d) (rotf .sll (byteFrom s (indexed s ii d)) s.f).1
      (after (State.setR { s with f := (rotf .sll (byteFrom s (indexed s ii d)) s.f).2 } z (rotf .sll (byteFrom s (indexed s ii d)) s.f).1) 23 (busAfterRead s (indexed s ii d))) ∧
    StoresByte (.srlIdxR ii d z) s (indexed s ii d) (rotf .srl (byteFrom s (indexed s ii d)) s.f).1
      (after (State.setR { s with f := (rotf .srl (byteFrom s (indexed s ii d)) s.f).2 } z (rotf .srl (byteFrom s (indexed s ii d)) s.f).1) 23 (busAfterRead s (indexed s ii d)))

/-- BIT, SET and RES on a register, (HL), (ii+d), and SET and RES with a copy to a register. (44_rotate_shift_bit.md
R432, 44_rotate_shift_bit.md R433, 44_rotate_shift_bit.md R456, 44_rotate_shift_bit.md R434 to R437,
44_rotate_shift_bit.md R457 to R460, R31, 92_eei_decisions.md D16) -/
def Obligations.BitTestSetAndResetForms : Prop :=
  ∀ (s : State) (b x : BitVec 3) (z : Reg8) (ii : IndexReg) (d : Byte),
    exec (.bitR b z) s = .next (after { s with f := bitf b (s.getR z) (s.getR z) s.f } 8 s.bus) ∧
    exec (.bitAtHL b) s =
      .next (after { s with f := bitf b (byteFrom s (mkWord s.h s.l)) (Config.bitHlYx s.freeCount) s.f, freeCount := s.freeCount + 1 } 12
        (busAfterRead s (mkWord s.h s.l))) ∧
    exec (.bitIdx ii d b x) s =
      .next (after { s with f := bitf b (byteFrom s (indexed s ii d)) (hiByte (indexed s ii d)) s.f } 20 (busAfterRead s (indexed s ii d))) ∧
    exec (.setR b z) s = .next (after (s.setR z (s.getR z ||| (1#8 <<< b.toNat))) 8 s.bus) ∧
    StoresByte (.setAtHL b) s (mkWord s.h s.l) ((byteFrom s (mkWord s.h s.l)) ||| (1#8 <<< b.toNat))
      (after s 15 (busAfterRead s (mkWord s.h s.l))) ∧
    StoresByte (.setIdx ii d b) s (indexed s ii d) ((byteFrom s (indexed s ii d)) ||| (1#8 <<< b.toNat))
      (after s 23 (busAfterRead s (indexed s ii d))) ∧
    StoresByte (.setIdxR ii d b z) s (indexed s ii d) ((byteFrom s (indexed s ii d)) ||| (1#8 <<< b.toNat))
      (after (s.setR z ((byteFrom s (indexed s ii d)) ||| (1#8 <<< b.toNat))) 23 (busAfterRead s (indexed s ii d))) ∧
    exec (.resR b z) s = .next (after (s.setR z (s.getR z &&& ~~~(1#8 <<< b.toNat))) 8 s.bus) ∧
    StoresByte (.resAtHL b) s (mkWord s.h s.l) ((byteFrom s (mkWord s.h s.l)) &&& ~~~(1#8 <<< b.toNat))
      (after s 15 (busAfterRead s (mkWord s.h s.l))) ∧
    StoresByte (.resIdx ii d b) s (indexed s ii d) ((byteFrom s (indexed s ii d)) &&& ~~~(1#8 <<< b.toNat))
      (after s 23 (busAfterRead s (indexed s ii d))) ∧
    StoresByte (.resIdxR ii d b z) s (indexed s ii d) ((byteFrom s (indexed s ii d)) &&& ~~~(1#8 <<< b.toNat))
      (after (s.setR z ((byteFrom s (indexed s ii d)) &&& ~~~(1#8 <<< b.toNat))) 23 (busAfterRead s (indexed s ii d)))

/-- RLD and RRD: the digit moves, and the flags from the new A. (44_rotate_shift_bit.md R438, 44_rotate_shift_bit.md
R439) -/
def Obligations.DigitRotates : Prop :=
  ∀ s : State,
    let t := byteFrom s (mkWord s.h s.l)
    (∃ f, StoresByte .rld s (mkWord s.h s.l) ((t <<< 4) ||| (s.a &&& 0x0F))
      (after { s with a := (s.a &&& 0xF0) ||| (t >>> 4), f := f } 18 (busAfterRead s (mkWord s.h s.l))) ∧
      ResultFlags f ((s.a &&& 0xF0) ||| (t >>> 4)) ∧ ParityFlag f ((s.a &&& 0xF0) ||| (t >>> 4)) ∧ bitOf f 4 = false ∧ bitOf f 1 = false ∧ bitOf f 0 = bitOf s.f 0) ∧
    (∃ f, StoresByte .rrd s (mkWord s.h s.l) ((s.a <<< 4) ||| (t >>> 4))
      (after { s with a := (s.a &&& 0xF0) ||| (t &&& 0x0F), f := f } 18 (busAfterRead s (mkWord s.h s.l))) ∧
      ResultFlags f ((s.a &&& 0xF0) ||| (t &&& 0x0F)) ∧ ParityFlag f ((s.a &&& 0xF0) ||| (t &&& 0x0F)) ∧ bitOf f 4 = false ∧ bitOf f 1 = false ∧ bitOf f 0 = bitOf s.f 0)

/-- JP, JP cc, JR, JR cc, JP (HL), JP (ii), DJNZ: PC, the condition and the cost of the path taken.
(45_control_transfer.md R470 to R476, R106, R109, R206) -/
def Obligations.JumpForms : Prop :=
  ∀ (s : State) (cc : Cond) (nn : Word) (e : Byte),
    let holds : Bool := match cc with
      | .nz => !bitOf s.f 6 | .z => bitOf s.f 6 | .nc => !bitOf s.f 0 | .c => bitOf s.f 0
      | .po => !bitOf s.f 2 | .pe => bitOf s.f 2 | .p => !bitOf s.f 7 | .m => bitOf s.f 7
    exec (.jpNn nn) s = .next (after { s with pc := nn } 10 s.bus) ∧
    exec (.jpCcNn cc nn) s = .next (after { s with pc := if holds then nn else s.pc } 10 s.bus) ∧
    exec (.jrE e) s = .next (after { s with pc := s.pc + e.signExtend 16 } 12 s.bus) ∧
    exec (.jrCcE cc e) s =
      .next (if holds then after { s with pc := s.pc + e.signExtend 16 } 12 s.bus else after s 7 s.bus) ∧
    exec .jpHL s = .next (after { s with pc := mkWord s.h s.l } 4 s.bus) ∧
    exec (.jpIi .ix) s = .next (after { s with pc := s.ix } 8 s.bus) ∧
    exec (.jpIi .iy) s = .next (after { s with pc := s.iy } 8 s.bus) ∧
    exec (.djnzE e) s =
      .next (if s.b = 1 then after { s with b := 0 } 8 s.bus
        else after { s with b := s.b - 1, pc := s.pc + e.signExtend 16 } 13 s.bus)

/-- CALL, CALL cc, RST: PC pushed below SP, then the target; nothing when the condition is false.
(45_control_transfer.md R477, 45_control_transfer.md R478, 45_control_transfer.md R483, R89, R206) -/
def Obligations.CallAndRestartForms : Prop :=
  ∀ (s : State) (cc : Cond) (nn : Word) (t : BitVec 3),
    let holds : Bool := match cc with
      | .nz => !bitOf s.f 6 | .z => bitOf s.f 6 | .nc => !bitOf s.f 0 | .c => bitOf s.f 0
      | .po => !bitOf s.f 2 | .pe => bitOf s.f 2 | .p => !bitOf s.f 7 | .m => bitOf s.f 7
    StoresWordHighFirst (.callNn nn) s (s.sp - 2) s.pc (after { s with sp := s.sp - 2, pc := nn } 17 s.bus) ∧
    (holds = true → StoresWordHighFirst (.callCcNn cc nn) s (s.sp - 2) s.pc
      (after { s with sp := s.sp - 2, pc := nn } 17 s.bus)) ∧
    (holds = false → exec (.callCcNn cc nn) s = .next (after s 10 s.bus)) ∧
    StoresWordHighFirst (.rstP t) s (s.sp - 2) s.pc
      (after { s with sp := s.sp - 2, pc := BitVec.ofNat 16 (t.toNat * 8) } 11 s.bus)

/-- RET, RET cc, RETI, RETN: PC from the stack; RETI and RETN also copy IFF2 into IFF1. (45_control_transfer.md R479
to R482, R163, R32) -/
def Obligations.ReturnForms : Prop :=
  ∀ (s : State) (cc : Cond) (x : BitVec 3),
    let holds : Bool := match cc with
      | .nz => !bitOf s.f 6 | .z => bitOf s.f 6 | .nc => !bitOf s.f 0 | .c => bitOf s.f 0
      | .po => !bitOf s.f 2 | .pe => bitOf s.f 2 | .p => !bitOf s.f 7 | .m => bitOf s.f 7
    exec .ret s = .next (after { s with sp := s.sp + 2, pc := wordFrom s s.sp } 10 (busAfterReads s s.sp)) ∧
    exec (.retCc cc) s =
      .next (if holds then after { s with sp := s.sp + 2, pc := wordFrom s s.sp } 11 (busAfterReads s s.sp) else after s 5 s.bus) ∧
    exec .reti s = .next (after { s with sp := s.sp + 2, pc := wordFrom s s.sp, iff1 := s.iff2 } 14 (busAfterReads s s.sp)) ∧
    exec (.retn x) s = .next (after { s with sp := s.sp + 2, pc := wordFrom s s.sp, iff1 := s.iff2 } 14 (busAfterReads s s.sp))

/-- LDI, LDIR, LDD, LDDR: one byte moved, the pairs stepped, the flags, and the repeat by two bytes. (46_block.md R490
to R493, 93_implementation_defined.md U10) -/
def Obligations.BlockMoveForms : Prop :=
  ∀ s : State,
    let v := byteFrom s (mkWord s.h s.l)
    let bc := mkWord s.b s.c - 1
    let MoveFlags := fun f : Byte => bitOf f 7 = bitOf s.f 7 ∧ bitOf f 6 = bitOf s.f 6 ∧ bitOf f 5 = bitOf (v + s.a) 1 ∧
      bitOf f 4 = false ∧ bitOf f 3 = bitOf (v + s.a) 3 ∧ (bitOf f 2 = true ↔ bc ≠ 0) ∧ bitOf f 1 = false ∧
      bitOf f 0 = bitOf s.f 0
    (let hl := mkWord s.h s.l + 1
     let de := mkWord s.d s.e + 1
     ∃ f, MoveFlags f ∧ StoresByte .ldi s (mkWord s.d s.e) v
       (after { s with b := hiByte bc, c := loByte bc, d := hiByte de, e := loByte de, h := hiByte hl, l := loByte hl, f := f, pc := s.pc } 16
         (busAfterRead s (mkWord s.h s.l)))) ∧
    (let hl := mkWord s.h s.l + 1
     let de := mkWord s.d s.e + 1
     ∃ f, MoveFlags f ∧ StoresByte .ldir s (mkWord s.d s.e) v
       (after { s with b := hiByte bc, c := loByte bc, d := hiByte de, e := loByte de, h := hiByte hl, l := loByte hl, f := f, pc := if bc = 0 then s.pc else s.pc - 2 } (if bc = 0 then 16 else 21)
         (busAfterRead s (mkWord s.h s.l)))) ∧
    (let hl := mkWord s.h s.l - 1
     let de := mkWord s.d s.e - 1
     ∃ f, MoveFlags f ∧ StoresByte .ldd s (mkWord s.d s.e) v
       (after { s with b := hiByte bc, c := loByte bc, d := hiByte de, e := loByte de, h := hiByte hl, l := loByte hl, f := f, pc := s.pc } 16
         (busAfterRead s (mkWord s.h s.l)))) ∧
    (let hl := mkWord s.h s.l - 1
     let de := mkWord s.d s.e - 1
     ∃ f, MoveFlags f ∧ StoresByte .lddr s (mkWord s.d s.e) v
       (after { s with b := hiByte bc, c := loByte bc, d := hiByte de, e := loByte de, h := hiByte hl, l := loByte hl, f := f, pc := if bc = 0 then s.pc else s.pc - 2 } (if bc = 0 then 16 else 21)
         (busAfterRead s (mkWord s.h s.l))))

/-- CPI, CPIR, CPD, CPDR: A compared with the byte at HL, the pairs stepped, the flags, and the repeat. (46_block.md
R494 to R497, 93_implementation_defined.md U10) -/
def Obligations.BlockCompareForms : Prop :=
  ∀ s : State,
    let v := byteFrom s (mkWord s.h s.l)
    let bc := mkWord s.b s.c - 1
    let borrow : Byte := if s.a.toNat % 16 < v.toNat % 16 then 1 else 0
    let CompareFlags := fun f : Byte => bitOf f 7 = bitOf (s.a - v) 7 ∧ (bitOf f 6 = true ↔ s.a = v) ∧
      bitOf f 5 = bitOf (s.a - v - borrow) 1 ∧ (bitOf f 4 = true ↔ s.a.toNat % 16 < v.toNat % 16) ∧
      bitOf f 3 = bitOf (s.a - v - borrow) 3 ∧ (bitOf f 2 = true ↔ bc ≠ 0) ∧ bitOf f 1 = true ∧ bitOf f 0 = bitOf s.f 0
    (let hl := mkWord s.h s.l + 1
     ∃ f, CompareFlags f ∧ exec .cpi s = .next (after
       { s with b := hiByte bc, c := loByte bc, h := hiByte hl, l := loByte hl, f := f, pc := s.pc } 16 (busAfterRead s (mkWord s.h s.l)))) ∧
    (let hl := mkWord s.h s.l + 1
     ∃ f, CompareFlags f ∧ exec .cpir s = .next (after
       { s with b := hiByte bc, c := loByte bc, h := hiByte hl, l := loByte hl, f := f, pc := if bc = 0 ∨ s.a = v then s.pc else s.pc - 2 } (if bc = 0 ∨ s.a = v then 16 else 21) (busAfterRead s (mkWord s.h s.l)))) ∧
    (let hl := mkWord s.h s.l - 1
     ∃ f, CompareFlags f ∧ exec .cpd s = .next (after
       { s with b := hiByte bc, c := loByte bc, h := hiByte hl, l := loByte hl, f := f, pc := s.pc } 16 (busAfterRead s (mkWord s.h s.l)))) ∧
    (let hl := mkWord s.h s.l - 1
     ∃ f, CompareFlags f ∧ exec .cpdr s = .next (after
       { s with b := hiByte bc, c := loByte bc, h := hiByte hl, l := loByte hl, f := f, pc := if bc = 0 ∨ s.a = v then s.pc else s.pc - 2 } (if bc = 0 ∨ s.a = v then 16 else 21) (busAfterRead s (mkWord s.h s.l))))

/-- IN A,(n) / IN r,(C) / IN (C) / OUT (n),A / OUT (C),r / OUT (C),0: the port address, the byte, the flags. (47_io.md
R500 to R505, R88, 92_eei_decisions.md D18) -/
def Obligations.PortForms : Prop :=
  ∀ (s : State) (n : Byte) (y : Reg8),
    let InFlags := fun f v : Byte => ResultFlags f v ∧ ParityFlag f v ∧ bitOf f 4 = false ∧ bitOf f 1 = false ∧
      bitOf f 0 = bitOf s.f 0
    let atAN := s.bus.readPort (mkWord s.a n)
    let atBC := s.bus.readPort (mkWord s.b s.c)
    exec (.inAN n) s = .next (after { s with a := atAN.1 } 11 atAN.2) ∧
    (∃ f, InFlags f atBC.1 ∧ exec (.inRC y) s = .next (after (State.setR { s with f := f } y atBC.1) 12 atBC.2)) ∧
    (∃ f, InFlags f atBC.1 ∧ exec .inC s = .next (after { s with f := f } 12 atBC.2)) ∧
    exec (.outNA n) s = .next (after s 11 (s.bus.writePort (mkWord s.a n) s.a)) ∧
    exec (.outCR y) s = .next (after s 12 (s.bus.writePort (mkWord s.b s.c) (s.getR y))) ∧
    exec .outC0 s = .next (after s 12 (s.bus.writePort (mkWord s.b s.c) Config.outC0Value))

/-- INI, INIR, IND, INDR, OUTI, OTIR, OUTD, OTDR: the transfer, the port address, the flags and the repeat. (47_io.md
R506 to R513, R88, 93_implementation_defined.md U11) -/
def Obligations.BlockPortForms : Prop :=
  ∀ s : State,
    let v : Byte := (s.bus.readPort (mkWord s.b s.c)).1
    let m := byteFrom s (mkWord s.h s.l)
    let IoFlags := fun (f x : Byte) (k : Nat) => ResultFlags f (s.b - 1) ∧ (bitOf f 4 = true ↔ 255 < k) ∧
      (bitOf f 2 = true ↔ ones (BitVec.ofNat 8 (k % 8) ^^^ (s.b - 1)) % 2 = 0) ∧ bitOf f 1 = bitOf x 7 ∧
      (bitOf f 0 = true ↔ 255 < k)
    (let hl := mkWord s.h s.l + 1
     ∃ f, IoFlags f v (v.toNat + (s.c + 1).toNat) ∧ StoresByte .ini s (mkWord s.h s.l) v
       (after { s with b := s.b - 1, h := hiByte hl, l := loByte hl, f := f, pc := s.pc } 16
         (s.bus.readPort (mkWord s.b s.c)).2)) ∧
    (let hl := mkWord s.h s.l + 1
     ∃ f, IoFlags f v (v.toNat + (s.c + 1).toNat) ∧ StoresByte .inir s (mkWord s.h s.l) v
       (after { s with b := s.b - 1, h := hiByte hl, l := loByte hl, f := f, pc := if s.b = 1 then s.pc else s.pc - 2 } (if s.b = 1 then 16 else 21)
         (s.bus.readPort (mkWord s.b s.c)).2)) ∧
    (let hl := mkWord s.h s.l - 1
     ∃ f, IoFlags f v (v.toNat + (s.c - 1).toNat) ∧ StoresByte .ind s (mkWord s.h s.l) v
       (after { s with b := s.b - 1, h := hiByte hl, l := loByte hl, f := f, pc := s.pc } 16
         (s.bus.readPort (mkWord s.b s.c)).2)) ∧
    (let hl := mkWord s.h s.l - 1
     ∃ f, IoFlags f v (v.toNat + (s.c - 1).toNat) ∧ StoresByte .indr s (mkWord s.h s.l) v
       (after { s with b := s.b - 1, h := hiByte hl, l := loByte hl, f := f, pc := if s.b = 1 then s.pc else s.pc - 2 } (if s.b = 1 then 16 else 21)
         (s.bus.readPort (mkWord s.b s.c)).2)) ∧
    (let hl := mkWord s.h s.l + 1
     ∃ f, IoFlags f m (m.toNat + (loByte hl).toNat) ∧ exec .outi s = .next (after
       { s with b := s.b - 1, h := hiByte hl, l := loByte hl, f := f, pc := s.pc } 16
         ((busAfterRead s (mkWord s.h s.l)).writePort (mkWord (s.b - 1) s.c) m))) ∧
    (let hl := mkWord s.h s.l + 1
     ∃ f, IoFlags f m (m.toNat + (loByte hl).toNat) ∧ exec .otir s = .next (after
       { s with b := s.b - 1, h := hiByte hl, l := loByte hl, f := f, pc := if s.b = 1 then s.pc else s.pc - 2 } (if s.b = 1 then 16 else 21)
         ((busAfterRead s (mkWord s.h s.l)).writePort (mkWord (s.b - 1) s.c) m))) ∧
    (let hl := mkWord s.h s.l - 1
     ∃ f, IoFlags f m (m.toNat + (loByte hl).toNat) ∧ exec .outd s = .next (after
       { s with b := s.b - 1, h := hiByte hl, l := loByte hl, f := f, pc := s.pc } 16
         ((busAfterRead s (mkWord s.h s.l)).writePort (mkWord (s.b - 1) s.c) m))) ∧
    (let hl := mkWord s.h s.l - 1
     ∃ f, IoFlags f m (m.toNat + (loByte hl).toNat) ∧ exec .otdr s = .next (after
       { s with b := s.b - 1, h := hiByte hl, l := loByte hl, f := f, pc := if s.b = 1 then s.pc else s.pc - 2 } (if s.b = 1 then 16 else 21)
         ((busAfterRead s (mkWord s.h s.l)).writePort (mkWord (s.b - 1) s.c) m)))

/-- NOP, HALT, DI, EI, IM 0, IM 1, IM 2, ED-NOP: exactly the control bits they name. (48_cpu_control.md R520 to R526,
48_cpu_control.md R530, R31, R112) -/
def Obligations.CpuControlForms : Prop :=
  ∀ (s : State) (x5 x3 : Bool) (x : Byte),
    exec .nop s = .next (after s 4 s.bus) ∧
    exec .halt s = .next (after { s with halted := true } 4 s.bus) ∧
    exec .di s = .next (after { s with iff1 := false, iff2 := false } 4 s.bus) ∧
    exec .ei s = .next (after { s with iff1 := true, iff2 := true, eiDelay := true } 4 s.bus) ∧
    exec (.im0 x5 x3) s = .next (after { s with im := .im0 } 8 s.bus) ∧
    exec (.im1 x5) s = .next (after { s with im := .im1 } 8 s.bus) ∧
    exec (.im2 x5) s = .next (after { s with im := .im2 } 8 s.bus) ∧
    exec (.edNop x) s = .next (after s 8 s.bus)

/-- The lead-in rows have no effect of their own; a fallback runs its BASE instruction for 4 T-states more. (R111,
R113, R121, 48_cpu_control.md R527 to R529, 48_cpu_control.md R531) -/
def Obligations.PrefixRowsAndFallback : Prop :=
  ∀ (s : State) (ii : IndexReg),
    exec .prefixCB s = .next s ∧ exec .prefixED s = .next s ∧ exec (.prefixXY ii) s = .next (after s 4 s.bus) ∧
    ∀ base : Instr, base.isFallbackBase = true →
      ∃ t, exec (.xyFallback ii base) s = .next t ∧ exec base (after s 4 s.bus) = .next t

/-- Every well-formed instruction completes from every state: no instruction traps, faults or is refused. (R115, R150,
R169) -/
def Obligations.EveryWellFormedInstructionCompletes : Prop :=
  ∀ (i : Instr) (s : State), i.WellFormed = true → ∃ t, exec i s = .next t

/-- F is unchanged by every instruction whose rule says Flags: none. (R31, R30, 41_load16_stack_exchange.md R327,
41_load16_stack_exchange.md R329) -/
def Obligations.FlagPreservation : Prop :=
  (∀ (i : Instr) (s t : State), keepsF i = true → exec i s = .next t → t.f = s.f) ∧
  (∀ s t : State, exec (.popQq .af) s = .next t → t.f = byteFrom s s.sp) ∧
  (∀ s t : State, exec .exAFAF s = .next t → t.f = s.f')

/-- Memory, PC, I, R, IM, IFFs, ei_delay, halted, the alternate bank and ports change only by the named instructions.
(R22, R25, R26, R27, R32, R33, R34, R35, R36, R39, R77, R87) -/
def Obligations.OnlyNamedInstructionsWriteSpecialState : Prop :=
  ∀ (i : Instr) (s t : State), exec i s = .next t →
    (∀ x, t.peek x ≠ s.peek x → stores (inner i) = true ∧ s.bus.memAnswer x = .ram) ∧
    (t.i ≠ s.i → inner i = .ldIA) ∧ (t.r ≠ s.r → inner i = .ldRA) ∧
    (t.im ≠ s.im → ∃ x5 x3, inner i = .im0 x5 x3 ∨ inner i = .im1 x5 ∨ inner i = .im2 x5) ∧
    (t.iff1 ≠ s.iff1 → inner i = .di ∨ inner i = .ei ∨ inner i = .reti ∨ ∃ x, inner i = .retn x) ∧
    (t.iff2 ≠ s.iff2 → inner i = .di ∨ inner i = .ei) ∧
    (t.eiDelay ≠ s.eiDelay → inner i = .ei) ∧ (t.halted ≠ s.halted → inner i = .halt) ∧
    (t.a' ≠ s.a' ∨ t.f' ≠ s.f' → inner i = .exAFAF) ∧
    (t.b' ≠ s.b' ∨ t.c' ≠ s.c' ∨ t.d' ≠ s.d' ∨ t.e' ≠ s.e' ∨ t.h' ≠ s.h' ∨ t.l' ≠ s.l' → inner i = .exx) ∧
    (t.pc ≠ s.pc → writesPC (inner i) = true) ∧ (t.bus.portIn ≠ s.bus.portIn → readsPort (inner i) = true) ∧
    t.nmiPending = s.nmiPending ∧ t.intPending = s.intPending ∧ t.resetRegs = s.resetRegs ∧
    t.bus.memMap = s.bus.memMap ∧ t.bus.portMap = s.bus.portMap ∧ t.bus.failsAt = s.bus.failsAt ∧
    ∃ evs, t.bus.trace = evs ++ s.bus.trace

/-- The bus agent: RAM, ROM, a fixed byte, functions with own state, or a failure, by address; each access recorded
once (zeros in the default: entry 2). (R3, R70, R71, R72, R73, R77, R86, R87, 92_eei_decisions.md D5,
92_eei_decisions.md D12) That `Bus.flat.cell a = 0` is the model's choice (entry 2, DESIGN CHOICE): R87 and D5
leave the initial content a parameter. The form of the bus agent is the model's choice (entries 3, 6, 7, 24). -/
def Obligations.BusAgentAnswersByItsMap : Prop :=
  (∀ (b : Bus) (a : Word),
    (b.memMap = [] → b.memAnswer a = .ram) ∧ (b.portMap = [] → b.portAnswer a = .responses) ∧
    (∀ r rest, b.memMap = r :: rest → b.memAnswer a =
      if r.first.toNat ≤ (a &&& r.mask).toNat ∧ (a &&& r.mask).toNat ≤ r.last.toNat then r.answer
      else { b with memMap := rest }.memAnswer a) ∧
    (∀ r rest, b.portMap = r :: rest → b.portAnswer a =
      if r.first.toNat ≤ (a &&& r.mask).toNat ∧ (a &&& r.mask).toNat ≤ r.last.toNat then r.answer
      else { b with portMap := rest }.portAnswer a)) ∧
  (∀ (b : Bus) (a : Word) (v w : Byte),
    (b.memAnswer a = .ram ∨ b.memAnswer a = .rom →
      b.read a = (b.cell a, { b with trace := .memRead a (b.cell a) :: b.trace })) ∧
    (b.memAnswer a = .fixed w → b.read a = (w, { b with trace := .memRead a w :: b.trace })) ∧
    (∀ q, b.memAnswer a = .functions → Config.busReadMemory b.own a = some (w, q) →
      b.read a = (w, { b with own := q, trace := .memRead a w :: b.trace })) ∧
    (b.memAnswer a = .fails ∨ b.memAnswer a = .functions ∧ Config.busReadMemory b.own a = none →
      (b.read a).2.failed = true) ∧
    (b.fetch a).1 = (b.read a).1 ∧
    (b.fetch a).2 = { (b.read a).2 with trace := .fetch a (b.read a).1 :: b.trace } ∧
    (b.memAnswer a = .ram → (b.write a v).cell a = v ∧ (∀ x, x ≠ a → (b.write a v).cell x = b.cell x) ∧
      b.write a v = { b with mem := (b.write a v).mem, trace := .memWrite a v :: b.trace }) ∧
    (b.memAnswer a = .rom ∨ b.memAnswer a = .fixed w → b.write a v = { b with trace := .memWrite a v :: b.trace }) ∧
    (∀ q, b.memAnswer a = .functions → Config.busWriteMemory b.own a v = some q →
      b.write a v = { b with own := q, trace := .memWrite a v :: b.trace }) ∧
    (b.memAnswer a = .fails ∨ b.memAnswer a = .functions ∧ Config.busWriteMemory b.own a v = none →
      (b.write a v).failed = true)) ∧
  (∀ (b : Bus) (p : Word) (v w : Byte),
    (b.portAnswer p = .responses → b.portIn = [] → b.readPort p = (0xFF, { b with trace := .portRead p 0xFF :: b.trace })) ∧
    (∀ rest, b.portAnswer p = .responses → b.portIn = w :: rest →
      b.readPort p = (w, { b with portIn := rest, trace := .portRead p w :: b.trace })) ∧
    (b.portAnswer p = .fixed w → b.readPort p = (w, { b with trace := .portRead p w :: b.trace })) ∧
    (∀ q, b.portAnswer p = .functions → Config.busReadPort b.own p = some (w, q) →
      b.readPort p = (w, { b with own := q, trace := .portRead p w :: b.trace })) ∧
    (b.portAnswer p = .fails ∨ b.portAnswer p = .functions ∧ Config.busReadPort b.own p = none →
      (b.readPort p).2.failed = true) ∧
    (b.portAnswer p = .responses ∨ b.portAnswer p = .fixed w →
      b.writePort p v = { b with trace := .portWrite p v :: b.trace }) ∧
    (∀ q, b.portAnswer p = .functions → Config.busWritePort b.own p v = some q →
      b.writePort p v = { b with own := q, trace := .portWrite p v :: b.trace }) ∧
    (b.portAnswer p = .fails ∨ b.portAnswer p = .functions ∧ Config.busWritePort b.own p v = none →
      (b.writePort p v).failed = true)) ∧
  (∀ (b : Bus) (a : Word) (v : Byte), b.failed = true →
    (b.read a).2.failed = true ∧ (b.fetch a).2.failed = true ∧ (b.write a v).failed = true ∧
    (b.readPort a).2.failed = true ∧ (b.writePort a v).failed = true) ∧
  ∀ a : Word, Bus.flat.memAnswer a = .ram ∧ Bus.flat.cell a = 0 ∧ Bus.flat.portAnswer a = .responses ∧
    (Bus.flat.readPort a).1 = 0xFF ∧ Quiet Bus.flat

/-- A step advances the low seven bits of R by the M1 fetches of its item and dropped prefixes, and keeps bit 7.
(R114) -/
def Obligations.RefreshCounterAdvance : Prop :=
  ∀ (s t : State) (pre bytes : List Byte) (i : Instr), NoAcceptance s → s.halted = false →
    (fetched (pre.length + bytes.length) s.bus s.pc).1 = pre ++ bytes →
    (∀ x ∈ pre, x = 0xDD ∨ x = 0xFD) → (pre ≠ [] → bytes.head? ∈ [some 0xDD, some 0xFD, some 0xED]) →
    decode bytes = .ok (i, []) → isLeadIn i = false → step s = .next t →
    (inner i = .ldRA → t.r = s.a) ∧
    (inner i ≠ .ldRA →
      let own := if bytes.head? ∈ [some 0xCB, some 0xED, some 0xDD, some 0xFD] then 2 else 1
      t.r.toNat % 128 = (s.r.toNat % 128 + pre.length + own) % 128 ∧ bitOf t.r 7 = bitOf s.r 7)

/-- A step runs the instruction that the bytes at PC decode to. (R102, R162, R73, R77, R86, R114) -/
def Obligations.StepRunsTheDecodedInstruction : Prop :=
  ∀ (s : State) (i : Instr) (n : Nat), NoAcceptance s → s.halted = false → s.bus.failed = false →
    decode (fetched n s.bus s.pc).1 = .ok (i, []) → isLeadIn i = false →
    ∃ t, StepsTo s t ∧ exec i { s with
      tStates := 0, eiDelay := false, pc := s.pc + BitVec.ofNat 16 n
      r := bumpRTimes (m1Fetches (s.bus.fetch s.pc).1 i) s.r, bus := (fetched n s.bus s.pc).2 } = .next t

/-- A DD or FD byte before DD, FD or ED is dropped inside the same step for 4 T-states and one R increment, and the
step completes. (R111, R121, R102, 92_eei_decisions.md D15) -/
def Obligations.DroppedPrefixCostsFourAndOneRefresh : Prop :=
  ∀ s : State, NoAcceptance s → s.halted = false → s.bus.failed = false →
    let m := s.bus.fetch s.pc
    let n := m.2.fetch (s.pc + 1)
    let s1 := { s with pc := s.pc + 1, r := bumpR s.r, bus := m.2 }
    (m.1 = 0xDD ∨ m.1 = 0xFD) → (n.1 = 0xDD ∨ n.1 = 0xFD ∨ n.1 = 0xED) →
    (Quiet s.bus → ¬Endless s → ∃ u, step s1 = .next u ∧ step s = .next { u with tStates := u.tStates + 4 }) ∧
    (∀ t, step s = .next t → ∃ u, step s1 = .next u ∧ t = { u with tStates := u.tStates + 4 })

/-- A memory full of 0xDD and 0xFD bytes never completes an instruction: the step is stuck at the bound. (R111, R208,
92_eei_decisions.md D15) -/
def Obligations.EndlessPrefixRunIsStuck : Prop :=
  ∀ s : State, NoAcceptance s → s.halted = false →
    (PlainMemory s.bus → s.bus.failed = false → s.bus.failsAt = none → (∀ a, s.peek a = 0xDD ∨ s.peek a = 0xFD) →
      step s = .fault .prefixChain) ∧
    (Quiet s.bus → Endless s → step s = .fault .prefixChain)

/-- A pending non-maskable interrupt is always accepted: PC pushed, IFF1 cleared, PC = 0x0066, 11 T-states. (R156) -/
def Obligations.NonMaskableInterruptEntry : Prop :=
  ∀ s : State, s.nmiPending = true → s.bus.failed = false →
    let t := { s with
      nmiPending := false, halted := false, eiDelay := false, iff1 := false, r := bumpR s.r, sp := s.sp - 2, pc := 0x0066
      bus := pushed s.bus s.sp s.pc, tStates := 11 }
    StepsTo s t ∧ WordStored s t (s.sp - 2) s.pc ∧ (Quiet s.bus → step s = .next t)

/-- An acceptable maskable interrupt: flip-flops cleared, PC pushed, the target by mode 0, 1 or 2; mode 0 refuses
other bytes (D13). (R157, R158, R159, R160, R162, R86, 92_eei_decisions.md D13) -/
def Obligations.MaskableInterruptEntryByMode : Prop :=
  ∀ (s : State) (d : Byte), s.nmiPending = false → s.intPending = some d → s.iff1 = true → s.eiDelay = false →
    s.bus.failed = false →
    let entered := fun (pc : Word) (n : Nat) (bus : Bus) =>
      { s with
        intPending := none, iff1 := false, iff2 := false, halted := false, r := bumpR s.r, sp := s.sp - 2, pc := pc
        bus := bus, tStates := n }
    let push := pushed s.bus s.sp s.pc
    let ptr := mkWord s.i d
    let enters := fun t : State => StepsTo s t ∧ WordStored s t (s.sp - 2) s.pc ∧ (Quiet s.bus → step s = .next t)
    (s.im = .im0 → d.toNat % 8 = 7 → 0xC0 ≤ d.toNat → enters (entered (BitVec.ofNat 16 (d.toNat - 0xC7)) 13 push)) ∧
    (s.im = .im0 → ¬(d.toNat % 8 = 7 ∧ 0xC0 ≤ d.toNat) → step s = .refused (.mode0Byte d)) ∧
    (s.im = .im1 → enters (entered 0x0038 13 push)) ∧
    (s.im = .im2 → enters (entered (mkWord ((push.read ptr).2.read (ptr + 1)).1 (push.read ptr).1) 19
      ((push.read ptr).2.read (ptr + 1)).2))

/-- A maskable request blocked by IFF1 = 0 or by the EI delay changes nothing in the step and stays latched. (R155,
R157, R36, R33) -/
def Obligations.BlockedMaskableRequestStaysLatched : Prop :=
  ∀ (s : State) (d : Byte), s.nmiPending = false → (s.iff1 = false ∨ s.eiDelay = true) →
    step { s with intPending := some d } =
      mapNext (fun t => { t with intPending := some d }) (step { s with intPending := none })

/-- HALT halts past its opcode; a halted step only counts R; only an accepted interrupt or a reset leaves Halted.
(R161) -/
def Obligations.HaltedStep : Prop :=
  (∀ s : State, exec .halt s = .next (after { s with halted := true } 4 s.bus)) ∧
  (∀ s : State, NoAcceptance s → s.halted = false → s.bus.failed = false → (s.bus.fetch s.pc).1 = 0x76 →
    StepsTo s { s with
      eiDelay := false, halted := true, pc := s.pc + 1, r := bumpR s.r, bus := (s.bus.fetch s.pc).2, tStates := 4 }) ∧
  (∀ s : State, NoAcceptance s → s.halted = true → s.bus.failed = false →
    step s = .next { s with eiDelay := false, r := bumpR s.r, tStates := 4 }) ∧
  (∀ s t : State, ¬NoAcceptance s → s.halted = true → step s = .next t → t.halted = false) ∧
  ∀ s : State, s.resetCore.halted = false

/-- Reset() gives every register its value of R40, touches no memory or port, and is idempotent. (R200, R201) -/
def Obligations.ResetAssignsEveryRegister : Prop :=
  ∀ s : State,
    let t := s.resetCore
    let rr := s.resetRegs
    t.pc = 0 ∧ t.sp = 0xFFFF ∧ t.a = 0xFF ∧ t.f = 0xFF ∧ t.i = 0 ∧ t.r = 0 ∧ t.iff1 = false ∧ t.iff2 = false ∧
    t.eiDelay = false ∧ t.im = .im0 ∧ t.halted = false ∧ t.nmiPending = false ∧ t.intPending = none ∧
    t.bc = rr.bc ∧ t.de = rr.de ∧ t.hl = rr.hl ∧ mkWord t.a' t.f' = rr.af' ∧ mkWord t.b' t.c' = rr.bc' ∧
    mkWord t.d' t.e' = rr.de' ∧ mkWord t.h' t.l' = rr.hl' ∧ t.ix = rr.ix ∧ t.iy = rr.iy ∧
    t.resetRegs = rr ∧ t.bus = s.bus ∧ t.tStates = s.tStates ∧ t.freeCount = s.freeCount ∧ t.resetCore = t ∧
    (State.powerOn rr s.bus).resetCore = State.powerOn rr s.bus

/-- RESET_REGS and the fixed part of BUS never change along a run: all resets leave the same registers, those of
power-on. (R3, R40, R201, R202, 92_eei_decisions.md D9) -/
def Obligations.ParametersAreFixedAlongEveryRun : Prop :=
  (∀ s0 s : State, Reaches s0 s →
    s.resetRegs = s0.resetRegs ∧ s.bus.memMap = s0.bus.memMap ∧ s.bus.portMap = s0.bus.portMap ∧
    s.bus.failsAt = s0.bus.failsAt ∧
    s.resetCore = { s0.resetCore with bus := s.bus, freeCount := s.freeCount, tStates := s.tStates }) ∧
  ∀ (rr : Config.ResetRegs) (b : Bus) (s : State), Reaches (State.powerOn rr b) s →
    s.resetCore = { State.powerOn rr b with bus := s.bus, freeCount := s.freeCount, tStates := s.tStates }

/-- A failing bus access ends the step with fault(bus), for good; a failure elsewhere changes nothing. (R86, R170,
92_eei_decisions.md D12) -/
def Obligations.BusFailureEndsTheStep : Prop :=
  (∀ (s t : State) (n : Nat), s.bus.failsAt = none → step s = .next t →
    let failing := fun u : State => { u with bus := { u.bus with failsAt := some n } }
    (s.bus.trace.length ≤ n → n < t.bus.trace.length → step (failing s) = .fault .bus) ∧
    (n < s.bus.trace.length ∨ t.bus.trace.length ≤ n → step (failing s) = .next (failing t))) ∧
  (∀ s t : State, step s = .next t → t.bus.failed = false) ∧
  ∀ s : State, s.bus.failed = true → step s = .fault .bus

/-- A step goes on but for a mode-0 device byte, an endless prefix run, and a failing bus. (R115, R150, R158, R111,
R202, R208, R209, 92_eei_decisions.md D13, 92_eei_decisions.md D15) -/
def Obligations.StepStopsOnlyWhereTheSpecSays : Prop :=
  (∀ s : State, (∃ t, step s = .next t) ∨ step s = .fault .bus ∨ step s = .fault .prefixChain ∨
    ∃ d, step s = .refused (.mode0Byte d)) ∧
  ∀ s : State, Quiet s.bus →
    step s ≠ .fault .bus ∧
    (step s = .fault .prefixChain ↔ NoAcceptance s ∧ s.halted = false ∧ Endless s) ∧
    (PlainMemory s.bus → (step s = .fault .prefixChain ↔
      NoAcceptance s ∧ s.halted = false ∧ ∀ a, s.peek a = 0xDD ∨ s.peek a = 0xFD)) ∧
    ∀ d, step s = .refused (.mode0Byte d) ↔
      s.nmiPending = false ∧ s.intPending = some d ∧ s.iff1 = true ∧ s.eiDelay = false ∧ s.im = .im0 ∧
        d &&& 0xC7 ≠ 0xC7

/-- Seventeen instruction words written out from the encodings decode to their instructions. (30_encoding.md R100 to
R113, R120) -/
def Obligations.DecodeOfWrittenOutWords : Prop :=
  decode [0x41] = .ok (.ldRR .b .c, []) ∧
  decode [0xDD, 0x36, 0x05, 0xAA] = .ok (.ldIdxN .ix 0x05 0xAA, []) ∧
  decode [0xED, 0x7B, 0x00, 0x40] = .ok (.ldDdAtNn .sp 0x4000, []) ∧
  decode [0xF5] = .ok (.pushQq .af, []) ∧
  decode [0xC6, 0x01] = .ok (.addN 0x01, []) ∧
  decode [0xFD, 0x84] = .ok (.addP .iy .iiH, []) ∧
  decode [0xED, 0x5A] = .ok (.adcHLSs .de, []) ∧
  decode [0xCB, 0x35] = .ok (.sllR .l, []) ∧
  decode [0xFD, 0xCB, 0xFE, 0x6E] = .ok (.bitIdx .iy 0xFE 5 6, []) ∧
  decode [0xDA, 0x00, 0x80] = .ok (.jpCcNn .c 0x8000, []) ∧
  decode [0x38, 0x10] = .ok (.jrCcE .c 0x10, []) ∧
  decode [0xED, 0xB0] = .ok (.ldir, []) ∧
  decode [0xED, 0x70] = .ok (.inC, []) ∧
  decode [0x76] = .ok (.halt, []) ∧
  decode [0xED, 0x6E] = .ok (.im0 true true, []) ∧
  decode [0xDD, 0x76] = .ok (.xyFallback .ix .halt, []) ∧
  decode [0xED, 0xDD] = .ok (.edNop 0xDD, [])

/-- Decode and encode agree: every well-formed instruction, followed by any bytes, decodes to itself. (R100, R102 to
R113, R115, R116) -/
def Obligations.DecodeOfEncode : Prop :=
  ∀ i : Instr, i.WellFormed = true →
    (isLeadIn i = false → ∀ rest, decode (encode i ++ rest) = .ok (i, rest)) ∧
    (isLeadIn i = true → decode (encode i) = .ok (i, []))

/-- Every four bytes decode to a well-formed item whose encoding is exactly the bytes consumed. (R115, R116, R112,
R113) -/
def Obligations.EncodeOfDecode : Prop :=
  ∀ b0 b1 b2 b3 : Byte, ∃ i rest, decode [b0, b1, b2, b3] = .ok (i, rest) ∧ i.WellFormed = true ∧
    encode i ++ rest = [b0, b1, b2, b3] ∧ encode i ≠ []

/-- Every step and every host event keeps memory in its canonical form and the bus agent unfailed. (R70, R86, R87,
R162) -/
def Obligations.StepKeepsMemoryCanonical : Prop :=
  (∀ s t : State, s.Inv → step s = .next t → t.Inv) ∧
  (∀ (s : State) (ev : HostEvent), s.Inv → (ev.apply s).Inv)

/-- The reset state is power-on with the default parameters: a Reset() with nothing in memory, in the invariant
(entries 1, 2, 3, 6, 7, 24). (R40, R87, R202) -/
def Obligations.ResetStateIsOneResetWithEmptyMemory : Prop :=
  State.reset = State.powerOn Config.resetRegs Bus.flat ∧ State.reset.resetCore = State.reset ∧
  State.reset.bus.mem = [] ∧ State.reset.bus.memMap = [] ∧ State.reset.bus.portMap = [] ∧ State.reset.bus.portIn = [] ∧
  State.reset.bus.own = [] ∧ State.reset.bus.trace = [] ∧ State.reset.bus.failed = false ∧
  State.reset.bus.failsAt = none ∧ State.reset.Inv
end

