-- ==== Sys2Proof/Laws/Bits.lean ====
section
/-!
SUPPORT. The law of the word and its two bytes (10_state.md R21, R42) and of single bits.
-/

namespace Sys2Proof

@[simp] theorem hiByte_mkWord (hi lo : Byte) : hiByte (mkWord hi lo) = hi := by
  apply BitVec.eq_of_getLsbD_eq
  intro i hi
  simp only [hiByte, mkWord, BitVec.getLsbD_extractLsb', BitVec.getLsbD_append]
  simp [hi]

@[simp] theorem loByte_mkWord (hi lo : Byte) : loByte (mkWord hi lo) = lo := by
  apply BitVec.eq_of_getLsbD_eq
  intro i hi
  simp only [loByte, mkWord, BitVec.getLsbD_extractLsb', BitVec.getLsbD_append]
  simp [hi]

/-- Bit `i` of a word made of two bytes. -/
theorem getLsbD_mkWord (hi lo : Byte) (i : Nat) :
    (mkWord hi lo).getLsbD i = if i < 8 then lo.getLsbD i else hi.getLsbD (i - 8) :=
  BitVec.getLsbD_append

@[simp] theorem mkWord_hiByte_loByte (w : Word) : mkWord (hiByte w) (loByte w) = w := by
  apply BitVec.eq_of_getLsbD_eq
  intro i hi
  rw [getLsbD_mkWord]
  by_cases h : i < 8
  · simp [loByte, h]
  · have h2 : i - 8 < 8 := by omega
    have h3 : 8 + (i - 8) = i := by omega
    simp [hiByte, h, h2, h3]

/-- "the combined 16-bit value always equals `(high << 8) | low`" (R21). -/
theorem mkWord_eq_shift_or (hi lo : Byte) : mkWord hi lo = (hi.setWidth 16 <<< 8) ||| lo.setWidth 16 := by
  apply BitVec.eq_of_getLsbD_eq
  intro i hi
  rw [getLsbD_mkWord]
  by_cases h : i < 8
  · simp [h]; omega
  · have h4 : lo.getLsbD i = false := BitVec.getLsbD_of_ge _ _ (by omega)
    simp only [BitVec.getLsbD_or, BitVec.getLsbD_shiftLeft, BitVec.getLsbD_setWidth, h4]
    simp [h, hi, show i - 8 < 16 by omega]

theorem mkWord_inj {a b c d : Byte} (h : mkWord a b = mkWord c d) : a = c ∧ b = d := by
  have h1 := congrArg hiByte h
  have h2 := congrArg loByte h
  simpa using And.intro h1 h2

end Sys2Proof
end

