-- ==== Sys2Proof/Laws/Memory.lean ====
section
/-!
SUPPORT. The laws of memory: a read after a write, and the canonical form, which every memory operation keeps and
which makes memories that read alike equal.
-/

namespace Sys2Proof.Machine

/-! ## Reads -/

theorem Memory.read_erase_same (m : Memory) (a : Word) : Memory.read (Memory.erase m a.toNat) a = Config.unwrittenByte := by
  induction m with
  | nil => rfl
  | cons e rest ih =>
    obtain ⟨k, v⟩ := e
    by_cases h : k = a.toNat
    · subst h
      simpa [Memory.erase] using ih
    · have : Memory.erase ((k, v) :: rest) a.toNat = (k, v) :: Memory.erase rest a.toNat := by
        simp [Memory.erase, h]
      rw [this, Memory.read, if_neg h, ih]

theorem Memory.read_erase_other (m : Memory) (k : Nat) (b : Word) (h : b.toNat ≠ k) :
    Memory.read (Memory.erase m k) b = Memory.read m b := by
  induction m with
  | nil => rfl
  | cons e rest ih =>
    obtain ⟨j, v⟩ := e
    by_cases hj : j = k
    · subst hj
      have : Memory.erase ((j, v) :: rest) j = Memory.erase rest j := by simp [Memory.erase]
      rw [this, ih, Memory.read, if_neg (Ne.symm h)]
    · have : Memory.erase ((j, v) :: rest) k = (j, v) :: Memory.erase rest k := by simp [Memory.erase, hj]
      rw [this, Memory.read, Memory.read, ih]

theorem Memory.read_insert_other (m : Memory) (k : Nat) (v : Byte) (b : Word) (h : b.toNat ≠ k) :
    Memory.read (Memory.insert m k v) b = Memory.read m b := by
  induction m with
  | nil => simp [Memory.insert, Memory.read, Ne.symm h]
  | cons e rest ih =>
    obtain ⟨j, w⟩ := e
    by_cases hj : k < j
    · rw [Memory.insert, if_pos hj, Memory.read, if_neg (Ne.symm h)]
    · rw [Memory.insert, if_neg hj, Memory.read, Memory.read, ih]

theorem Memory.read_insert_same (m : Memory) (a : Word) (v : Byte) (h : ∀ e ∈ m, e.1 ≠ a.toNat) :
    Memory.read (Memory.insert m a.toNat v) a = v := by
  induction m with
  | nil => simp [Memory.insert, Memory.read]
  | cons e rest ih =>
    obtain ⟨j, w⟩ := e
    have hj : j ≠ a.toNat := h (j, w) (by simp)
    by_cases hlt : a.toNat < j
    · rw [Memory.insert, if_pos hlt, Memory.read, if_pos rfl]
    · rw [Memory.insert, if_neg hlt, Memory.read, if_neg hj]
      exact ih fun e he => h e (List.mem_cons_of_mem _ he)

/-- A read after a write to the same address gives the byte written. -/
@[simp] theorem Memory.read_write_same (m : Memory) (a : Word) (v : Byte) : Memory.read (Memory.write m a v) a = v := by
  unfold Memory.write
  split
  · rename_i h
    rw [Memory.read_erase_same, h]
  · apply Memory.read_insert_same
    intro e he
    simpa using (List.mem_filter.mp he).2

/-- A write leaves every other address alone. -/
theorem Memory.read_write_other (m : Memory) (a b : Word) (v : Byte) (h : b ≠ a) :
    Memory.read (Memory.write m a v) b = Memory.read m b := by
  have hn : b.toNat ≠ a.toNat := fun e => h (BitVec.eq_of_toNat_eq e)
  unfold Memory.write
  split
  · exact Memory.read_erase_other m _ b hn
  · rw [Memory.read_insert_other _ _ _ b hn, Memory.read_erase_other m _ b hn]

/-! ## The canonical form -/

theorem Memory.wfFrom_cons {lo k : Nat} {v : Byte} {rest : Memory} :
    Memory.wfFrom lo ((k, v) :: rest) = true ↔
      lo ≤ k ∧ k < 65536 ∧ v ≠ Config.unwrittenByte ∧ Memory.wfFrom (k + 1) rest = true := by
  simp [Memory.wfFrom, and_assoc]

theorem Memory.wfFrom_mono {lo lo' : Nat} {m : Memory} (h : Memory.wfFrom lo m = true) (hle : lo' ≤ lo) :
    Memory.wfFrom lo' m = true := by
  cases m with
  | nil => rfl
  | cons e rest =>
    obtain ⟨k, v⟩ := e
    rw [Memory.wfFrom_cons] at h ⊢
    exact ⟨by omega, h.2⟩

theorem Memory.wfFrom_erase {lo : Nat} {m : Memory} (k : Nat) (h : Memory.wfFrom lo m = true) :
    Memory.wfFrom lo (Memory.erase m k) = true := by
  induction m generalizing lo with
  | nil => rfl
  | cons e rest ih =>
    obtain ⟨j, v⟩ := e
    rw [Memory.wfFrom_cons] at h
    by_cases hj : j = k
    · subst hj
      have : Memory.erase ((j, v) :: rest) j = Memory.erase rest j := by simp [Memory.erase]
      rw [this]
      exact Memory.wfFrom_mono (ih h.2.2.2) (by omega)
    · have : Memory.erase ((j, v) :: rest) k = (j, v) :: Memory.erase rest k := by simp [Memory.erase, hj]
      rw [this, Memory.wfFrom_cons]
      exact ⟨h.1, h.2.1, h.2.2.1, ih h.2.2.2⟩

theorem Memory.wfFrom_insert {lo k : Nat} {v : Byte} {m : Memory} (h : Memory.wfFrom lo m = true) (hlo : lo ≤ k)
    (hk : k < 65536) (hv : v ≠ Config.unwrittenByte) (hne : ∀ e ∈ m, e.1 ≠ k) :
    Memory.wfFrom lo (Memory.insert m k v) = true := by
  induction m generalizing lo with
  | nil => rw [Memory.insert, Memory.wfFrom_cons]; exact ⟨hlo, hk, hv, rfl⟩
  | cons e rest ih =>
    obtain ⟨j, w⟩ := e
    rw [Memory.wfFrom_cons] at h
    have hj : j ≠ k := hne (j, w) (by simp)
    by_cases hlt : k < j
    · rw [Memory.insert, if_pos hlt, Memory.wfFrom_cons, Memory.wfFrom_cons]
      exact ⟨hlo, hk, hv, by omega, h.2⟩
    · rw [Memory.insert, if_neg hlt, Memory.wfFrom_cons]
      exact ⟨h.1, h.2.1, h.2.2.1,
        ih h.2.2.2 (by omega) fun e he => hne e (List.mem_cons_of_mem _ he)⟩

/-- A write keeps the canonical form. -/
theorem Memory.wf_write {m : Memory} (a : Word) (v : Byte) (h : Memory.wf m = true) :
    Memory.wf (Memory.write m a v) = true := by
  unfold Memory.write
  split
  · exact Memory.wfFrom_erase _ h
  · rename_i hv
    apply Memory.wfFrom_insert (Memory.wfFrom_erase _ h) (Nat.zero_le _) a.isLt hv
    intro e he
    simpa using (List.mem_filter.mp he).2

/-- Placing bytes keeps the canonical form. -/
theorem Memory.wf_place {m : Memory} (a : Word) (bytes : List Byte) (h : Memory.wf m = true) :
    Memory.wf (Memory.place m a bytes) = true := by
  induction bytes generalizing m a with
  | nil => exact h
  | cons v rest ih => exact ih (a + 1) (Memory.wf_write a v h)

/-- Reset memory is canonical. -/
theorem Memory.wf_reset : Memory.wf State.reset.bus.mem = true := rfl

theorem Memory.read_below {lo : Nat} {m : Memory} (h : Memory.wfFrom lo m = true) (a : Word) (ha : a.toNat < lo) :
    Memory.read m a = Config.unwrittenByte := by
  induction m generalizing lo with
  | nil => rfl
  | cons e rest ih =>
    obtain ⟨k, v⟩ := e
    rw [Memory.wfFrom_cons] at h
    rw [Memory.read, if_neg (by omega)]
    exact ih h.2.2.2 (by omega)

/-- Canonical memories that read alike are equal data. -/
theorem Memory.ext_of_read {m n : Memory} {lo : Nat} (hm : Memory.wfFrom lo m = true) (hn : Memory.wfFrom lo n = true)
    (h : ∀ a : Word, Memory.read m a = Memory.read n a) : m = n := by
  induction m generalizing n lo with
  | nil =>
    cases n with
    | nil => rfl
    | cons e rest =>
      obtain ⟨k, v⟩ := e
      rw [Memory.wfFrom_cons] at hn
      have := h (BitVec.ofNat 16 k)
      simp [Memory.read, Nat.mod_eq_of_lt hn.2.1] at this
      exact absurd this.symm hn.2.2.1
  | cons e rest ih =>
    obtain ⟨k, v⟩ := e
    rw [Memory.wfFrom_cons] at hm
    have hka : (BitVec.ofNat 16 k).toNat = k := by simp [Nat.mod_eq_of_lt hm.2.1]
    have hread : Memory.read ((k, v) :: rest) (BitVec.ofNat 16 k) = v := by rw [Memory.read, if_pos hka.symm]
    cases n with
    | nil =>
      have := h (BitVec.ofNat 16 k)
      rw [hread] at this
      exact absurd this hm.2.2.1
    | cons e' rest' =>
      obtain ⟨j, w⟩ := e'
      rw [Memory.wfFrom_cons] at hn
      have hja : (BitVec.ofNat 16 j).toNat = j := by simp [Nat.mod_eq_of_lt hn.2.1]
      have hread' : Memory.read ((j, w) :: rest') (BitVec.ofNat 16 j) = w := by rw [Memory.read, if_pos hja.symm]
      have hkj : k = j := by
        rcases Nat.lt_trichotomy k j with hlt | heq | hgt
        · have h1 := h (BitVec.ofNat 16 k)
          rw [hread, Memory.read, if_neg (by omega), Memory.read_below hn.2.2.2 _ (by omega)] at h1
          exact absurd h1 hm.2.2.1
        · exact heq
        · have h1 := h (BitVec.ofNat 16 j)
          rw [hread', Memory.read, if_neg (by omega), Memory.read_below hm.2.2.2 _ (by omega)] at h1
          exact absurd h1.symm hn.2.2.1
      subst hkj
      have hvw : v = w := by
        have h1 := h (BitVec.ofNat 16 k)
        rwa [hread, hread'] at h1
      subst hvw
      have : rest = rest' := by
        apply ih hm.2.2.2 hn.2.2.2
        intro a
        by_cases ha : k = a.toNat
        · rw [Memory.read_below hm.2.2.2 a (by omega), Memory.read_below hn.2.2.2 a (by omega)]
        · have h1 := h a
          rwa [Memory.read, Memory.read, if_neg ha, if_neg ha] at h1
      rw [this]

end Sys2Proof.Machine
end

