-- ==== Sys2Proof/Laws/Bus.lean ====
section
/-!
SUPPORT. The laws of the bus agent: each operation records one access and leaves the fixed part alone; what it answers
and changes by the answer of the map; where no access fails.
-/

namespace Sys2Proof.Machine

/-! ## What an access leaves alone, and what it records -/

/-- The fixed part of a bus agent, and how long its record is. -/
structure Bus.Extends (b b' : Bus) (n : Nat) : Prop where
  memMap : b'.memMap = b.memMap
  portMap : b'.portMap = b.portMap
  failsAt : b'.failsAt = b.failsAt
  failed : b.failed = true → b'.failed = true
  trace : ∃ evs, evs.length = n ∧ b'.trace = evs ++ b.trace
  wf : Memory.wf b.mem = true → Memory.wf b'.mem = true

theorem Bus.Extends.refl (b : Bus) : b.Extends b 0 := ⟨rfl, rfl, rfl, id, ⟨[], rfl, rfl⟩, id⟩

theorem Bus.Extends.trans {a b c : Bus} {n m : Nat} (h : a.Extends b n) (k : b.Extends c m) : a.Extends c (n + m) := by
  obtain ⟨e, he, het⟩ := h.trace
  obtain ⟨f, hf, hft⟩ := k.trace
  exact ⟨k.memMap.trans h.memMap, k.portMap.trans h.portMap, k.failsAt.trans h.failsAt, fun x => k.failed (h.failed x),
    ⟨f ++ e, by simp [he, hf, Nat.add_comm], by rw [hft, het, List.append_assoc]⟩, fun x => k.wf (h.wf x)⟩

theorem Bus.Extends.length {b b' : Bus} {n : Nat} (h : b.Extends b' n) : b'.trace.length = b.trace.length + n := by
  obtain ⟨e, he, ht⟩ := h.trace
  rw [ht, List.length_append, he, Nat.add_comm]

theorem Bus.extends_finishRead (b : Bus) (ev : Byte → BusEvent) (r : ReadAnswer)
    (h : ∀ x ∈ r, ∃ mem portIn own, x.2 = { b with mem := mem, portIn := portIn, own := own } ∧
      (Memory.wf b.mem = true → Memory.wf mem = true)) :
    b.Extends (b.finishRead ev r).2 1 := by
  cases r with
  | none => exact ⟨rfl, rfl, rfl, fun _ => rfl, ⟨[_], rfl, rfl⟩, id⟩
  | some x =>
    obtain ⟨mem, portIn, own, hx, hwf⟩ := h x rfl
    simp only [Bus.finishRead, hx]
    exact ⟨rfl, rfl, rfl, id, ⟨[_], rfl, rfl⟩, hwf⟩

theorem Bus.extends_finishWrite (b : Bus) (ev : BusEvent) (r : Option Bus)
    (h : ∀ x ∈ r, ∃ mem own, x = { b with mem := mem, own := own } ∧
      (Memory.wf b.mem = true → Memory.wf mem = true)) :
    b.Extends (b.finishWrite ev r) 1 := by
  cases r with
  | none => exact ⟨rfl, rfl, rfl, fun _ => rfl, ⟨[_], rfl, rfl⟩, id⟩
  | some x =>
    obtain ⟨mem, own, hx, hwf⟩ := h x rfl
    simp only [Bus.finishWrite, hx]
    exact ⟨rfl, rfl, rfl, id, ⟨[_], rfl, rfl⟩, hwf⟩

theorem Bus.answerRead_own (b : Bus) (a : Word) :
    ∀ x ∈ b.answerRead a, ∃ mem portIn own, x.2 = { b with mem := mem, portIn := portIn, own := own } ∧
      (Memory.wf b.mem = true → Memory.wf mem = true) := by
  intro x hx
  unfold Bus.answerRead at hx
  split at hx
  · cases hx; exact ⟨_, _, _, rfl, id⟩
  · cases hx; exact ⟨_, _, _, rfl, id⟩
  · cases hx; exact ⟨_, _, _, rfl, id⟩
  · obtain ⟨r, -, rfl⟩ := Option.map_eq_some_iff.mp hx
    exact ⟨_, _, _, rfl, id⟩
  · cases hx

/-- A fetch records one access. -/
theorem Bus.extends_fetch (b : Bus) (a : Word) : b.Extends (b.fetch a).2 1 :=
  b.extends_finishRead _ _ (b.answerRead_own a)

/-- A read records one access. -/
theorem Bus.extends_read (b : Bus) (a : Word) : b.Extends (b.read a).2 1 :=
  b.extends_finishRead _ _ (b.answerRead_own a)

/-- A write records one access. -/
theorem Bus.extends_write (b : Bus) (a : Word) (v : Byte) : b.Extends (b.write a v) 1 := by
  apply Bus.extends_finishWrite
  intro x hx
  unfold Bus.answerWrite at hx
  split at hx
  · cases hx; exact ⟨_, _, rfl, Memory.wf_write _ _⟩
  · cases hx; exact ⟨_, _, rfl, id⟩
  · cases hx; exact ⟨_, _, rfl, id⟩
  · obtain ⟨q, -, rfl⟩ := Option.map_eq_some_iff.mp hx
    exact ⟨_, _, rfl, id⟩
  · cases hx

/-- A port read records one access. -/
theorem Bus.extends_readPort (b : Bus) (p : Word) : b.Extends (b.readPort p).2 1 := by
  apply Bus.extends_finishRead
  intro x hx
  unfold Bus.answerPortRead at hx
  split at hx
  · cases hx; exact ⟨_, _, _, rfl, id⟩
  · cases hx; exact ⟨_, _, _, rfl, id⟩
  · obtain ⟨r, -, rfl⟩ := Option.map_eq_some_iff.mp hx
    exact ⟨_, _, _, rfl, id⟩
  · cases hx

/-- A port write records one access. -/
theorem Bus.extends_writePort (b : Bus) (p : Word) (v : Byte) : b.Extends (b.writePort p v) 1 := by
  apply Bus.extends_finishWrite
  intro x hx
  unfold Bus.answerPortWrite at hx
  split at hx
  · cases hx; exact ⟨_, _, rfl, id⟩
  · cases hx; exact ⟨_, _, rfl, id⟩
  · obtain ⟨q, -, rfl⟩ := Option.map_eq_some_iff.mp hx
    exact ⟨_, _, rfl, id⟩
  · cases hx

/-! ## Memory under an access -/

/-- A read leaves what memory holds. -/
@[simp] theorem Bus.mem_read (b : Bus) (a : Word) : (b.read a).2.mem = b.mem := by
  unfold Bus.read Bus.answerRead
  split <;> (try rfl)
  cases Config.busReadMemory b.own a <;> rfl

/-- A fetch leaves what memory holds. -/
@[simp] theorem Bus.mem_fetch (b : Bus) (a : Word) : (b.fetch a).2.mem = b.mem := by
  unfold Bus.fetch Bus.answerRead
  split <;> (try rfl)
  cases Config.busReadMemory b.own a <;> rfl

/-- A port access leaves what memory holds. -/
@[simp] theorem Bus.mem_readPort (b : Bus) (p : Word) : (b.readPort p).2.mem = b.mem := by
  unfold Bus.readPort Bus.answerPortRead
  split <;> (try rfl)
  cases Config.busReadPort b.own p <;> rfl

/-- A port access leaves what memory holds. -/
@[simp] theorem Bus.mem_writePort (b : Bus) (p : Word) (v : Byte) : (b.writePort p v).mem = b.mem := by
  unfold Bus.writePort Bus.answerPortWrite
  split <;> (try rfl)
  cases Config.busWritePort b.own p v <;> rfl

/-- A write changes memory where the map says RAM, and nowhere else. -/
theorem Bus.mem_write (b : Bus) (a : Word) (v : Byte) :
    (b.write a v).mem = if b.memAnswer a = .ram then Memory.write b.mem a v else b.mem := by
  unfold Bus.write Bus.answerWrite
  split <;> rename_i h <;> simp only [h, if_true, reduceCtorEq, if_false] <;> (try rfl)
  cases Config.busWriteMemory b.own a v <;> rfl

@[simp] theorem Bus.cell_read (b : Bus) (a x : Word) : (b.read a).2.cell x = b.cell x := by simp [Bus.cell]

@[simp] theorem Bus.cell_fetch (b : Bus) (a x : Word) : (b.fetch a).2.cell x = b.cell x := by simp [Bus.cell]

@[simp] theorem Bus.cell_readPort (b : Bus) (p x : Word) : (b.readPort p).2.cell x = b.cell x := by simp [Bus.cell]

@[simp] theorem Bus.cell_writePort (b : Bus) (p x : Word) (v : Byte) : (b.writePort p v).cell x = b.cell x := by
  simp [Bus.cell]

/-- After a write to RAM its byte reads the byte written. -/
theorem Bus.cell_write_same (b : Bus) (a : Word) (v : Byte) (h : b.memAnswer a = .ram) : (b.write a v).cell a = v := by
  simp [Bus.cell, Bus.mem_write, h]

/-- A write leaves the bytes of every other address. -/
theorem Bus.cell_write_other (b : Bus) (a x : Word) (v : Byte) (h : x ≠ a) : (b.write a v).cell x = b.cell x := by
  rw [Bus.cell, Bus.mem_write]
  split
  · exact Memory.read_write_other _ _ _ _ h
  · rfl

/-- A write where the map says no RAM leaves every byte. -/
theorem Bus.cell_write_of_not_ram (b : Bus) (a x : Word) (v : Byte) (h : b.memAnswer a ≠ .ram) :
    (b.write a v).cell x = b.cell x := by
  rw [Bus.cell, Bus.mem_write, if_neg h, Bus.cell]

/-! ## The map is fixed -/

@[simp] theorem Bus.memAnswer_read (b : Bus) (a x : Word) : (b.read a).2.memAnswer x = b.memAnswer x := by
  rw [Bus.memAnswer, (b.extends_read a).memMap, Bus.memAnswer]

@[simp] theorem Bus.memAnswer_fetch (b : Bus) (a x : Word) : (b.fetch a).2.memAnswer x = b.memAnswer x := by
  rw [Bus.memAnswer, (b.extends_fetch a).memMap, Bus.memAnswer]

@[simp] theorem Bus.memAnswer_write (b : Bus) (a x : Word) (v : Byte) : (b.write a v).memAnswer x = b.memAnswer x := by
  rw [Bus.memAnswer, (b.extends_write a v).memMap, Bus.memAnswer]

@[simp] theorem Bus.memAnswer_readPort (b : Bus) (p x : Word) : (b.readPort p).2.memAnswer x = b.memAnswer x := by
  rw [Bus.memAnswer, (b.extends_readPort p).memMap, Bus.memAnswer]

@[simp] theorem Bus.memAnswer_writePort (b : Bus) (p x : Word) (v : Byte) :
    (b.writePort p v).memAnswer x = b.memAnswer x := by
  rw [Bus.memAnswer, (b.extends_writePort p v).memMap, Bus.memAnswer]

/-! ## Access to plain memory -/

/-- A fetch from memory: the byte it holds, one access on record. -/
theorem Bus.fetch_of_isMemory (b : Bus) (a : Word) (h : (b.memAnswer a).isMemory = true) :
    b.fetch a = (b.cell a, { b with trace := .fetch a (b.cell a) :: b.trace }) := by
  unfold Bus.fetch Bus.answerRead
  split <;> simp_all [MemAnswer.isMemory, Bus.finishRead]

/-- A read of memory: the byte it holds, one access on record. -/
theorem Bus.read_of_isMemory (b : Bus) (a : Word) (h : (b.memAnswer a).isMemory = true) :
    b.read a = (b.cell a, { b with trace := .memRead a (b.cell a) :: b.trace }) := by
  unfold Bus.read Bus.answerRead
  split <;> simp_all [MemAnswer.isMemory, Bus.finishRead]

/-- A write to RAM: the byte, one access on record. -/
theorem Bus.write_of_ram (b : Bus) (a : Word) (v : Byte) (h : b.memAnswer a = .ram) :
    b.write a v = { b with mem := Memory.write b.mem a v, trace := .memWrite a v :: b.trace } := by
  simp [Bus.write, Bus.answerWrite, Bus.finishWrite, h]

end Sys2Proof.Machine
end

