-- ==== Sys2Proof/Laws/State.lean ====
section
/-!
SUPPORT. What each update of the state does to each field, true by definition, so that no proof unfolds an update;
the updates that choose a register by a code have one lemma each for all the fields they never touch.
-/

namespace Sys2Proof.Machine

section
variable (s : State) (n : Nat)
@[simp] theorem State.tick_a : (s.tick n).a = s.a := rfl
@[simp] theorem State.tick_f : (s.tick n).f = s.f := rfl
@[simp] theorem State.tick_b : (s.tick n).b = s.b := rfl
@[simp] theorem State.tick_c : (s.tick n).c = s.c := rfl
@[simp] theorem State.tick_d : (s.tick n).d = s.d := rfl
@[simp] theorem State.tick_e : (s.tick n).e = s.e := rfl
@[simp] theorem State.tick_h : (s.tick n).h = s.h := rfl
@[simp] theorem State.tick_l : (s.tick n).l = s.l := rfl
@[simp] theorem State.tick_a' : (s.tick n).a' = s.a' := rfl
@[simp] theorem State.tick_f' : (s.tick n).f' = s.f' := rfl
@[simp] theorem State.tick_b' : (s.tick n).b' = s.b' := rfl
@[simp] theorem State.tick_c' : (s.tick n).c' = s.c' := rfl
@[simp] theorem State.tick_d' : (s.tick n).d' = s.d' := rfl
@[simp] theorem State.tick_e' : (s.tick n).e' = s.e' := rfl
@[simp] theorem State.tick_h' : (s.tick n).h' = s.h' := rfl
@[simp] theorem State.tick_l' : (s.tick n).l' = s.l' := rfl
@[simp] theorem State.tick_ix : (s.tick n).ix = s.ix := rfl
@[simp] theorem State.tick_iy : (s.tick n).iy = s.iy := rfl
@[simp] theorem State.tick_sp : (s.tick n).sp = s.sp := rfl
@[simp] theorem State.tick_pc : (s.tick n).pc = s.pc := rfl
@[simp] theorem State.tick_i : (s.tick n).i = s.i := rfl
@[simp] theorem State.tick_r : (s.tick n).r = s.r := rfl
@[simp] theorem State.tick_iff1 : (s.tick n).iff1 = s.iff1 := rfl
@[simp] theorem State.tick_iff2 : (s.tick n).iff2 = s.iff2 := rfl
@[simp] theorem State.tick_eiDelay : (s.tick n).eiDelay = s.eiDelay := rfl
@[simp] theorem State.tick_im : (s.tick n).im = s.im := rfl
@[simp] theorem State.tick_halted : (s.tick n).halted = s.halted := rfl
@[simp] theorem State.tick_nmiPending : (s.tick n).nmiPending = s.nmiPending := rfl
@[simp] theorem State.tick_intPending : (s.tick n).intPending = s.intPending := rfl
@[simp] theorem State.tick_bus : (s.tick n).bus = s.bus := rfl
@[simp] theorem State.tick_resetRegs : (s.tick n).resetRegs = s.resetRegs := rfl
@[simp] theorem State.tick_freeCount : (s.tick n).freeCount = s.freeCount := rfl
@[simp] theorem State.tick_tStates : (s.tick n).tStates = s.tStates + n := rfl
end

section
variable (s : State) (v : Byte)
@[simp] theorem State.setF_a : (s.setF v).a = s.a := rfl
@[simp] theorem State.setF_f : (s.setF v).f = v := rfl
@[simp] theorem State.setF_b : (s.setF v).b = s.b := rfl
@[simp] theorem State.setF_c : (s.setF v).c = s.c := rfl
@[simp] theorem State.setF_d : (s.setF v).d = s.d := rfl
@[simp] theorem State.setF_e : (s.setF v).e = s.e := rfl
@[simp] theorem State.setF_h : (s.setF v).h = s.h := rfl
@[simp] theorem State.setF_l : (s.setF v).l = s.l := rfl
@[simp] theorem State.setF_a' : (s.setF v).a' = s.a' := rfl
@[simp] theorem State.setF_f' : (s.setF v).f' = s.f' := rfl
@[simp] theorem State.setF_b' : (s.setF v).b' = s.b' := rfl
@[simp] theorem State.setF_c' : (s.setF v).c' = s.c' := rfl
@[simp] theorem State.setF_d' : (s.setF v).d' = s.d' := rfl
@[simp] theorem State.setF_e' : (s.setF v).e' = s.e' := rfl
@[simp] theorem State.setF_h' : (s.setF v).h' = s.h' := rfl
@[simp] theorem State.setF_l' : (s.setF v).l' = s.l' := rfl
@[simp] theorem State.setF_ix : (s.setF v).ix = s.ix := rfl
@[simp] theorem State.setF_iy : (s.setF v).iy = s.iy := rfl
@[simp] theorem State.setF_sp : (s.setF v).sp = s.sp := rfl
@[simp] theorem State.setF_pc : (s.setF v).pc = s.pc := rfl
@[simp] theorem State.setF_i : (s.setF v).i = s.i := rfl
@[simp] theorem State.setF_r : (s.setF v).r = s.r := rfl
@[simp] theorem State.setF_iff1 : (s.setF v).iff1 = s.iff1 := rfl
@[simp] theorem State.setF_iff2 : (s.setF v).iff2 = s.iff2 := rfl
@[simp] theorem State.setF_eiDelay : (s.setF v).eiDelay = s.eiDelay := rfl
@[simp] theorem State.setF_im : (s.setF v).im = s.im := rfl
@[simp] theorem State.setF_halted : (s.setF v).halted = s.halted := rfl
@[simp] theorem State.setF_nmiPending : (s.setF v).nmiPending = s.nmiPending := rfl
@[simp] theorem State.setF_intPending : (s.setF v).intPending = s.intPending := rfl
@[simp] theorem State.setF_bus : (s.setF v).bus = s.bus := rfl
@[simp] theorem State.setF_resetRegs : (s.setF v).resetRegs = s.resetRegs := rfl
@[simp] theorem State.setF_freeCount : (s.setF v).freeCount = s.freeCount := rfl
@[simp] theorem State.setF_tStates : (s.setF v).tStates = s.tStates := rfl
end

section
variable (s : State) (v : Byte × Byte)
@[simp] theorem State.putAF_a : (s.putAF v).a = v.1 := rfl
@[simp] theorem State.putAF_f : (s.putAF v).f = v.2 := rfl
@[simp] theorem State.putAF_b : (s.putAF v).b = s.b := rfl
@[simp] theorem State.putAF_c : (s.putAF v).c = s.c := rfl
@[simp] theorem State.putAF_d : (s.putAF v).d = s.d := rfl
@[simp] theorem State.putAF_e : (s.putAF v).e = s.e := rfl
@[simp] theorem State.putAF_h : (s.putAF v).h = s.h := rfl
@[simp] theorem State.putAF_l : (s.putAF v).l = s.l := rfl
@[simp] theorem State.putAF_a' : (s.putAF v).a' = s.a' := rfl
@[simp] theorem State.putAF_f' : (s.putAF v).f' = s.f' := rfl
@[simp] theorem State.putAF_b' : (s.putAF v).b' = s.b' := rfl
@[simp] theorem State.putAF_c' : (s.putAF v).c' = s.c' := rfl
@[simp] theorem State.putAF_d' : (s.putAF v).d' = s.d' := rfl
@[simp] theorem State.putAF_e' : (s.putAF v).e' = s.e' := rfl
@[simp] theorem State.putAF_h' : (s.putAF v).h' = s.h' := rfl
@[simp] theorem State.putAF_l' : (s.putAF v).l' = s.l' := rfl
@[simp] theorem State.putAF_ix : (s.putAF v).ix = s.ix := rfl
@[simp] theorem State.putAF_iy : (s.putAF v).iy = s.iy := rfl
@[simp] theorem State.putAF_sp : (s.putAF v).sp = s.sp := rfl
@[simp] theorem State.putAF_pc : (s.putAF v).pc = s.pc := rfl
@[simp] theorem State.putAF_i : (s.putAF v).i = s.i := rfl
@[simp] theorem State.putAF_r : (s.putAF v).r = s.r := rfl
@[simp] theorem State.putAF_iff1 : (s.putAF v).iff1 = s.iff1 := rfl
@[simp] theorem State.putAF_iff2 : (s.putAF v).iff2 = s.iff2 := rfl
@[simp] theorem State.putAF_eiDelay : (s.putAF v).eiDelay = s.eiDelay := rfl
@[simp] theorem State.putAF_im : (s.putAF v).im = s.im := rfl
@[simp] theorem State.putAF_halted : (s.putAF v).halted = s.halted := rfl
@[simp] theorem State.putAF_nmiPending : (s.putAF v).nmiPending = s.nmiPending := rfl
@[simp] theorem State.putAF_intPending : (s.putAF v).intPending = s.intPending := rfl
@[simp] theorem State.putAF_bus : (s.putAF v).bus = s.bus := rfl
@[simp] theorem State.putAF_resetRegs : (s.putAF v).resetRegs = s.resetRegs := rfl
@[simp] theorem State.putAF_freeCount : (s.putAF v).freeCount = s.freeCount := rfl
@[simp] theorem State.putAF_tStates : (s.putAF v).tStates = s.tStates := rfl
end

section
variable (s : State) (v : Word)
@[simp] theorem State.setAF_a : (s.setAF v).a = hiByte v := rfl
@[simp] theorem State.setAF_f : (s.setAF v).f = loByte v := rfl
@[simp] theorem State.setAF_b : (s.setAF v).b = s.b := rfl
@[simp] theorem State.setAF_c : (s.setAF v).c = s.c := rfl
@[simp] theorem State.setAF_d : (s.setAF v).d = s.d := rfl
@[simp] theorem State.setAF_e : (s.setAF v).e = s.e := rfl
@[simp] theorem State.setAF_h : (s.setAF v).h = s.h := rfl
@[simp] theorem State.setAF_l : (s.setAF v).l = s.l := rfl
@[simp] theorem State.setAF_a' : (s.setAF v).a' = s.a' := rfl
@[simp] theorem State.setAF_f' : (s.setAF v).f' = s.f' := rfl
@[simp] theorem State.setAF_b' : (s.setAF v).b' = s.b' := rfl
@[simp] theorem State.setAF_c' : (s.setAF v).c' = s.c' := rfl
@[simp] theorem State.setAF_d' : (s.setAF v).d' = s.d' := rfl
@[simp] theorem State.setAF_e' : (s.setAF v).e' = s.e' := rfl
@[simp] theorem State.setAF_h' : (s.setAF v).h' = s.h' := rfl
@[simp] theorem State.setAF_l' : (s.setAF v).l' = s.l' := rfl
@[simp] theorem State.setAF_ix : (s.setAF v).ix = s.ix := rfl
@[simp] theorem State.setAF_iy : (s.setAF v).iy = s.iy := rfl
@[simp] theorem State.setAF_sp : (s.setAF v).sp = s.sp := rfl
@[simp] theorem State.setAF_pc : (s.setAF v).pc = s.pc := rfl
@[simp] theorem State.setAF_i : (s.setAF v).i = s.i := rfl
@[simp] theorem State.setAF_r : (s.setAF v).r = s.r := rfl
@[simp] theorem State.setAF_iff1 : (s.setAF v).iff1 = s.iff1 := rfl
@[simp] theorem State.setAF_iff2 : (s.setAF v).iff2 = s.iff2 := rfl
@[simp] theorem State.setAF_eiDelay : (s.setAF v).eiDelay = s.eiDelay := rfl
@[simp] theorem State.setAF_im : (s.setAF v).im = s.im := rfl
@[simp] theorem State.setAF_halted : (s.setAF v).halted = s.halted := rfl
@[simp] theorem State.setAF_nmiPending : (s.setAF v).nmiPending = s.nmiPending := rfl
@[simp] theorem State.setAF_intPending : (s.setAF v).intPending = s.intPending := rfl
@[simp] theorem State.setAF_bus : (s.setAF v).bus = s.bus := rfl
@[simp] theorem State.setAF_resetRegs : (s.setAF v).resetRegs = s.resetRegs := rfl
@[simp] theorem State.setAF_freeCount : (s.setAF v).freeCount = s.freeCount := rfl
@[simp] theorem State.setAF_tStates : (s.setAF v).tStates = s.tStates := rfl
end

section
variable (s : State) (v : Word)
@[simp] theorem State.setBC_a : (s.setBC v).a = s.a := rfl
@[simp] theorem State.setBC_f : (s.setBC v).f = s.f := rfl
@[simp] theorem State.setBC_b : (s.setBC v).b = hiByte v := rfl
@[simp] theorem State.setBC_c : (s.setBC v).c = loByte v := rfl
@[simp] theorem State.setBC_d : (s.setBC v).d = s.d := rfl
@[simp] theorem State.setBC_e : (s.setBC v).e = s.e := rfl
@[simp] theorem State.setBC_h : (s.setBC v).h = s.h := rfl
@[simp] theorem State.setBC_l : (s.setBC v).l = s.l := rfl
@[simp] theorem State.setBC_a' : (s.setBC v).a' = s.a' := rfl
@[simp] theorem State.setBC_f' : (s.setBC v).f' = s.f' := rfl
@[simp] theorem State.setBC_b' : (s.setBC v).b' = s.b' := rfl
@[simp] theorem State.setBC_c' : (s.setBC v).c' = s.c' := rfl
@[simp] theorem State.setBC_d' : (s.setBC v).d' = s.d' := rfl
@[simp] theorem State.setBC_e' : (s.setBC v).e' = s.e' := rfl
@[simp] theorem State.setBC_h' : (s.setBC v).h' = s.h' := rfl
@[simp] theorem State.setBC_l' : (s.setBC v).l' = s.l' := rfl
@[simp] theorem State.setBC_ix : (s.setBC v).ix = s.ix := rfl
@[simp] theorem State.setBC_iy : (s.setBC v).iy = s.iy := rfl
@[simp] theorem State.setBC_sp : (s.setBC v).sp = s.sp := rfl
@[simp] theorem State.setBC_pc : (s.setBC v).pc = s.pc := rfl
@[simp] theorem State.setBC_i : (s.setBC v).i = s.i := rfl
@[simp] theorem State.setBC_r : (s.setBC v).r = s.r := rfl
@[simp] theorem State.setBC_iff1 : (s.setBC v).iff1 = s.iff1 := rfl
@[simp] theorem State.setBC_iff2 : (s.setBC v).iff2 = s.iff2 := rfl
@[simp] theorem State.setBC_eiDelay : (s.setBC v).eiDelay = s.eiDelay := rfl
@[simp] theorem State.setBC_im : (s.setBC v).im = s.im := rfl
@[simp] theorem State.setBC_halted : (s.setBC v).halted = s.halted := rfl
@[simp] theorem State.setBC_nmiPending : (s.setBC v).nmiPending = s.nmiPending := rfl
@[simp] theorem State.setBC_intPending : (s.setBC v).intPending = s.intPending := rfl
@[simp] theorem State.setBC_bus : (s.setBC v).bus = s.bus := rfl
@[simp] theorem State.setBC_resetRegs : (s.setBC v).resetRegs = s.resetRegs := rfl
@[simp] theorem State.setBC_freeCount : (s.setBC v).freeCount = s.freeCount := rfl
@[simp] theorem State.setBC_tStates : (s.setBC v).tStates = s.tStates := rfl
end

section
variable (s : State) (v : Word)
@[simp] theorem State.setDE_a : (s.setDE v).a = s.a := rfl
@[simp] theorem State.setDE_f : (s.setDE v).f = s.f := rfl
@[simp] theorem State.setDE_b : (s.setDE v).b = s.b := rfl
@[simp] theorem State.setDE_c : (s.setDE v).c = s.c := rfl
@[simp] theorem State.setDE_d : (s.setDE v).d = hiByte v := rfl
@[simp] theorem State.setDE_e : (s.setDE v).e = loByte v := rfl
@[simp] theorem State.setDE_h : (s.setDE v).h = s.h := rfl
@[simp] theorem State.setDE_l : (s.setDE v).l = s.l := rfl
@[simp] theorem State.setDE_a' : (s.setDE v).a' = s.a' := rfl
@[simp] theorem State.setDE_f' : (s.setDE v).f' = s.f' := rfl
@[simp] theorem State.setDE_b' : (s.setDE v).b' = s.b' := rfl
@[simp] theorem State.setDE_c' : (s.setDE v).c' = s.c' := rfl
@[simp] theorem State.setDE_d' : (s.setDE v).d' = s.d' := rfl
@[simp] theorem State.setDE_e' : (s.setDE v).e' = s.e' := rfl
@[simp] theorem State.setDE_h' : (s.setDE v).h' = s.h' := rfl
@[simp] theorem State.setDE_l' : (s.setDE v).l' = s.l' := rfl
@[simp] theorem State.setDE_ix : (s.setDE v).ix = s.ix := rfl
@[simp] theorem State.setDE_iy : (s.setDE v).iy = s.iy := rfl
@[simp] theorem State.setDE_sp : (s.setDE v).sp = s.sp := rfl
@[simp] theorem State.setDE_pc : (s.setDE v).pc = s.pc := rfl
@[simp] theorem State.setDE_i : (s.setDE v).i = s.i := rfl
@[simp] theorem State.setDE_r : (s.setDE v).r = s.r := rfl
@[simp] theorem State.setDE_iff1 : (s.setDE v).iff1 = s.iff1 := rfl
@[simp] theorem State.setDE_iff2 : (s.setDE v).iff2 = s.iff2 := rfl
@[simp] theorem State.setDE_eiDelay : (s.setDE v).eiDelay = s.eiDelay := rfl
@[simp] theorem State.setDE_im : (s.setDE v).im = s.im := rfl
@[simp] theorem State.setDE_halted : (s.setDE v).halted = s.halted := rfl
@[simp] theorem State.setDE_nmiPending : (s.setDE v).nmiPending = s.nmiPending := rfl
@[simp] theorem State.setDE_intPending : (s.setDE v).intPending = s.intPending := rfl
@[simp] theorem State.setDE_bus : (s.setDE v).bus = s.bus := rfl
@[simp] theorem State.setDE_resetRegs : (s.setDE v).resetRegs = s.resetRegs := rfl
@[simp] theorem State.setDE_freeCount : (s.setDE v).freeCount = s.freeCount := rfl
@[simp] theorem State.setDE_tStates : (s.setDE v).tStates = s.tStates := rfl
end

section
variable (s : State) (v : Word)
@[simp] theorem State.setHL_a : (s.setHL v).a = s.a := rfl
@[simp] theorem State.setHL_f : (s.setHL v).f = s.f := rfl
@[simp] theorem State.setHL_b : (s.setHL v).b = s.b := rfl
@[simp] theorem State.setHL_c : (s.setHL v).c = s.c := rfl
@[simp] theorem State.setHL_d : (s.setHL v).d = s.d := rfl
@[simp] theorem State.setHL_e : (s.setHL v).e = s.e := rfl
@[simp] theorem State.setHL_h : (s.setHL v).h = hiByte v := rfl
@[simp] theorem State.setHL_l : (s.setHL v).l = loByte v := rfl
@[simp] theorem State.setHL_a' : (s.setHL v).a' = s.a' := rfl
@[simp] theorem State.setHL_f' : (s.setHL v).f' = s.f' := rfl
@[simp] theorem State.setHL_b' : (s.setHL v).b' = s.b' := rfl
@[simp] theorem State.setHL_c' : (s.setHL v).c' = s.c' := rfl
@[simp] theorem State.setHL_d' : (s.setHL v).d' = s.d' := rfl
@[simp] theorem State.setHL_e' : (s.setHL v).e' = s.e' := rfl
@[simp] theorem State.setHL_h' : (s.setHL v).h' = s.h' := rfl
@[simp] theorem State.setHL_l' : (s.setHL v).l' = s.l' := rfl
@[simp] theorem State.setHL_ix : (s.setHL v).ix = s.ix := rfl
@[simp] theorem State.setHL_iy : (s.setHL v).iy = s.iy := rfl
@[simp] theorem State.setHL_sp : (s.setHL v).sp = s.sp := rfl
@[simp] theorem State.setHL_pc : (s.setHL v).pc = s.pc := rfl
@[simp] theorem State.setHL_i : (s.setHL v).i = s.i := rfl
@[simp] theorem State.setHL_r : (s.setHL v).r = s.r := rfl
@[simp] theorem State.setHL_iff1 : (s.setHL v).iff1 = s.iff1 := rfl
@[simp] theorem State.setHL_iff2 : (s.setHL v).iff2 = s.iff2 := rfl
@[simp] theorem State.setHL_eiDelay : (s.setHL v).eiDelay = s.eiDelay := rfl
@[simp] theorem State.setHL_im : (s.setHL v).im = s.im := rfl
@[simp] theorem State.setHL_halted : (s.setHL v).halted = s.halted := rfl
@[simp] theorem State.setHL_nmiPending : (s.setHL v).nmiPending = s.nmiPending := rfl
@[simp] theorem State.setHL_intPending : (s.setHL v).intPending = s.intPending := rfl
@[simp] theorem State.setHL_bus : (s.setHL v).bus = s.bus := rfl
@[simp] theorem State.setHL_resetRegs : (s.setHL v).resetRegs = s.resetRegs := rfl
@[simp] theorem State.setHL_freeCount : (s.setHL v).freeCount = s.freeCount := rfl
@[simp] theorem State.setHL_tStates : (s.setHL v).tStates = s.tStates := rfl
end

section
variable (s : State) (p : Word) (v : Byte)
@[simp] theorem State.memWrite_a : (s.memWrite p v).a = s.a := rfl
@[simp] theorem State.memWrite_f : (s.memWrite p v).f = s.f := rfl
@[simp] theorem State.memWrite_b : (s.memWrite p v).b = s.b := rfl
@[simp] theorem State.memWrite_c : (s.memWrite p v).c = s.c := rfl
@[simp] theorem State.memWrite_d : (s.memWrite p v).d = s.d := rfl
@[simp] theorem State.memWrite_e : (s.memWrite p v).e = s.e := rfl
@[simp] theorem State.memWrite_h : (s.memWrite p v).h = s.h := rfl
@[simp] theorem State.memWrite_l : (s.memWrite p v).l = s.l := rfl
@[simp] theorem State.memWrite_a' : (s.memWrite p v).a' = s.a' := rfl
@[simp] theorem State.memWrite_f' : (s.memWrite p v).f' = s.f' := rfl
@[simp] theorem State.memWrite_b' : (s.memWrite p v).b' = s.b' := rfl
@[simp] theorem State.memWrite_c' : (s.memWrite p v).c' = s.c' := rfl
@[simp] theorem State.memWrite_d' : (s.memWrite p v).d' = s.d' := rfl
@[simp] theorem State.memWrite_e' : (s.memWrite p v).e' = s.e' := rfl
@[simp] theorem State.memWrite_h' : (s.memWrite p v).h' = s.h' := rfl
@[simp] theorem State.memWrite_l' : (s.memWrite p v).l' = s.l' := rfl
@[simp] theorem State.memWrite_ix : (s.memWrite p v).ix = s.ix := rfl
@[simp] theorem State.memWrite_iy : (s.memWrite p v).iy = s.iy := rfl
@[simp] theorem State.memWrite_sp : (s.memWrite p v).sp = s.sp := rfl
@[simp] theorem State.memWrite_pc : (s.memWrite p v).pc = s.pc := rfl
@[simp] theorem State.memWrite_i : (s.memWrite p v).i = s.i := rfl
@[simp] theorem State.memWrite_r : (s.memWrite p v).r = s.r := rfl
@[simp] theorem State.memWrite_iff1 : (s.memWrite p v).iff1 = s.iff1 := rfl
@[simp] theorem State.memWrite_iff2 : (s.memWrite p v).iff2 = s.iff2 := rfl
@[simp] theorem State.memWrite_eiDelay : (s.memWrite p v).eiDelay = s.eiDelay := rfl
@[simp] theorem State.memWrite_im : (s.memWrite p v).im = s.im := rfl
@[simp] theorem State.memWrite_halted : (s.memWrite p v).halted = s.halted := rfl
@[simp] theorem State.memWrite_nmiPending : (s.memWrite p v).nmiPending = s.nmiPending := rfl
@[simp] theorem State.memWrite_intPending : (s.memWrite p v).intPending = s.intPending := rfl
@[simp] theorem State.memWrite_bus : (s.memWrite p v).bus = s.bus.write p v := rfl
@[simp] theorem State.memWrite_resetRegs : (s.memWrite p v).resetRegs = s.resetRegs := rfl
@[simp] theorem State.memWrite_freeCount : (s.memWrite p v).freeCount = s.freeCount := rfl
@[simp] theorem State.memWrite_tStates : (s.memWrite p v).tStates = s.tStates := rfl
end

section
variable (s : State) (p : Word) (v : Byte)
@[simp] theorem State.portWrite_a : (s.portWrite p v).a = s.a := rfl
@[simp] theorem State.portWrite_f : (s.portWrite p v).f = s.f := rfl
@[simp] theorem State.portWrite_b : (s.portWrite p v).b = s.b := rfl
@[simp] theorem State.portWrite_c : (s.portWrite p v).c = s.c := rfl
@[simp] theorem State.portWrite_d : (s.portWrite p v).d = s.d := rfl
@[simp] theorem State.portWrite_e : (s.portWrite p v).e = s.e := rfl
@[simp] theorem State.portWrite_h : (s.portWrite p v).h = s.h := rfl
@[simp] theorem State.portWrite_l : (s.portWrite p v).l = s.l := rfl
@[simp] theorem State.portWrite_a' : (s.portWrite p v).a' = s.a' := rfl
@[simp] theorem State.portWrite_f' : (s.portWrite p v).f' = s.f' := rfl
@[simp] theorem State.portWrite_b' : (s.portWrite p v).b' = s.b' := rfl
@[simp] theorem State.portWrite_c' : (s.portWrite p v).c' = s.c' := rfl
@[simp] theorem State.portWrite_d' : (s.portWrite p v).d' = s.d' := rfl
@[simp] theorem State.portWrite_e' : (s.portWrite p v).e' = s.e' := rfl
@[simp] theorem State.portWrite_h' : (s.portWrite p v).h' = s.h' := rfl
@[simp] theorem State.portWrite_l' : (s.portWrite p v).l' = s.l' := rfl
@[simp] theorem State.portWrite_ix : (s.portWrite p v).ix = s.ix := rfl
@[simp] theorem State.portWrite_iy : (s.portWrite p v).iy = s.iy := rfl
@[simp] theorem State.portWrite_sp : (s.portWrite p v).sp = s.sp := rfl
@[simp] theorem State.portWrite_pc : (s.portWrite p v).pc = s.pc := rfl
@[simp] theorem State.portWrite_i : (s.portWrite p v).i = s.i := rfl
@[simp] theorem State.portWrite_r : (s.portWrite p v).r = s.r := rfl
@[simp] theorem State.portWrite_iff1 : (s.portWrite p v).iff1 = s.iff1 := rfl
@[simp] theorem State.portWrite_iff2 : (s.portWrite p v).iff2 = s.iff2 := rfl
@[simp] theorem State.portWrite_eiDelay : (s.portWrite p v).eiDelay = s.eiDelay := rfl
@[simp] theorem State.portWrite_im : (s.portWrite p v).im = s.im := rfl
@[simp] theorem State.portWrite_halted : (s.portWrite p v).halted = s.halted := rfl
@[simp] theorem State.portWrite_nmiPending : (s.portWrite p v).nmiPending = s.nmiPending := rfl
@[simp] theorem State.portWrite_intPending : (s.portWrite p v).intPending = s.intPending := rfl
@[simp] theorem State.portWrite_bus : (s.portWrite p v).bus = s.bus.writePort p v := rfl
@[simp] theorem State.portWrite_resetRegs : (s.portWrite p v).resetRegs = s.resetRegs := rfl
@[simp] theorem State.portWrite_freeCount : (s.portWrite p v).freeCount = s.freeCount := rfl
@[simp] theorem State.portWrite_tStates : (s.portWrite p v).tStates = s.tStates := rfl
end

section
variable (s : State) (p : Word)
@[simp] theorem State.memRead_2_a : ((s.memRead p).2).a = s.a := rfl
@[simp] theorem State.memRead_2_f : ((s.memRead p).2).f = s.f := rfl
@[simp] theorem State.memRead_2_b : ((s.memRead p).2).b = s.b := rfl
@[simp] theorem State.memRead_2_c : ((s.memRead p).2).c = s.c := rfl
@[simp] theorem State.memRead_2_d : ((s.memRead p).2).d = s.d := rfl
@[simp] theorem State.memRead_2_e : ((s.memRead p).2).e = s.e := rfl
@[simp] theorem State.memRead_2_h : ((s.memRead p).2).h = s.h := rfl
@[simp] theorem State.memRead_2_l : ((s.memRead p).2).l = s.l := rfl
@[simp] theorem State.memRead_2_a' : ((s.memRead p).2).a' = s.a' := rfl
@[simp] theorem State.memRead_2_f' : ((s.memRead p).2).f' = s.f' := rfl
@[simp] theorem State.memRead_2_b' : ((s.memRead p).2).b' = s.b' := rfl
@[simp] theorem State.memRead_2_c' : ((s.memRead p).2).c' = s.c' := rfl
@[simp] theorem State.memRead_2_d' : ((s.memRead p).2).d' = s.d' := rfl
@[simp] theorem State.memRead_2_e' : ((s.memRead p).2).e' = s.e' := rfl
@[simp] theorem State.memRead_2_h' : ((s.memRead p).2).h' = s.h' := rfl
@[simp] theorem State.memRead_2_l' : ((s.memRead p).2).l' = s.l' := rfl
@[simp] theorem State.memRead_2_ix : ((s.memRead p).2).ix = s.ix := rfl
@[simp] theorem State.memRead_2_iy : ((s.memRead p).2).iy = s.iy := rfl
@[simp] theorem State.memRead_2_sp : ((s.memRead p).2).sp = s.sp := rfl
@[simp] theorem State.memRead_2_pc : ((s.memRead p).2).pc = s.pc := rfl
@[simp] theorem State.memRead_2_i : ((s.memRead p).2).i = s.i := rfl
@[simp] theorem State.memRead_2_r : ((s.memRead p).2).r = s.r := rfl
@[simp] theorem State.memRead_2_iff1 : ((s.memRead p).2).iff1 = s.iff1 := rfl
@[simp] theorem State.memRead_2_iff2 : ((s.memRead p).2).iff2 = s.iff2 := rfl
@[simp] theorem State.memRead_2_eiDelay : ((s.memRead p).2).eiDelay = s.eiDelay := rfl
@[simp] theorem State.memRead_2_im : ((s.memRead p).2).im = s.im := rfl
@[simp] theorem State.memRead_2_halted : ((s.memRead p).2).halted = s.halted := rfl
@[simp] theorem State.memRead_2_nmiPending : ((s.memRead p).2).nmiPending = s.nmiPending := rfl
@[simp] theorem State.memRead_2_intPending : ((s.memRead p).2).intPending = s.intPending := rfl
@[simp] theorem State.memRead_2_bus : ((s.memRead p).2).bus = (s.bus.read p).2 := rfl
@[simp] theorem State.memRead_2_resetRegs : ((s.memRead p).2).resetRegs = s.resetRegs := rfl
@[simp] theorem State.memRead_2_freeCount : ((s.memRead p).2).freeCount = s.freeCount := rfl
@[simp] theorem State.memRead_2_tStates : ((s.memRead p).2).tStates = s.tStates := rfl
end

section
variable (s : State) (p : Word)
@[simp] theorem State.portRead_2_a : ((s.portRead p).2).a = s.a := rfl
@[simp] theorem State.portRead_2_f : ((s.portRead p).2).f = s.f := rfl
@[simp] theorem State.portRead_2_b : ((s.portRead p).2).b = s.b := rfl
@[simp] theorem State.portRead_2_c : ((s.portRead p).2).c = s.c := rfl
@[simp] theorem State.portRead_2_d : ((s.portRead p).2).d = s.d := rfl
@[simp] theorem State.portRead_2_e : ((s.portRead p).2).e = s.e := rfl
@[simp] theorem State.portRead_2_h : ((s.portRead p).2).h = s.h := rfl
@[simp] theorem State.portRead_2_l : ((s.portRead p).2).l = s.l := rfl
@[simp] theorem State.portRead_2_a' : ((s.portRead p).2).a' = s.a' := rfl
@[simp] theorem State.portRead_2_f' : ((s.portRead p).2).f' = s.f' := rfl
@[simp] theorem State.portRead_2_b' : ((s.portRead p).2).b' = s.b' := rfl
@[simp] theorem State.portRead_2_c' : ((s.portRead p).2).c' = s.c' := rfl
@[simp] theorem State.portRead_2_d' : ((s.portRead p).2).d' = s.d' := rfl
@[simp] theorem State.portRead_2_e' : ((s.portRead p).2).e' = s.e' := rfl
@[simp] theorem State.portRead_2_h' : ((s.portRead p).2).h' = s.h' := rfl
@[simp] theorem State.portRead_2_l' : ((s.portRead p).2).l' = s.l' := rfl
@[simp] theorem State.portRead_2_ix : ((s.portRead p).2).ix = s.ix := rfl
@[simp] theorem State.portRead_2_iy : ((s.portRead p).2).iy = s.iy := rfl
@[simp] theorem State.portRead_2_sp : ((s.portRead p).2).sp = s.sp := rfl
@[simp] theorem State.portRead_2_pc : ((s.portRead p).2).pc = s.pc := rfl
@[simp] theorem State.portRead_2_i : ((s.portRead p).2).i = s.i := rfl
@[simp] theorem State.portRead_2_r : ((s.portRead p).2).r = s.r := rfl
@[simp] theorem State.portRead_2_iff1 : ((s.portRead p).2).iff1 = s.iff1 := rfl
@[simp] theorem State.portRead_2_iff2 : ((s.portRead p).2).iff2 = s.iff2 := rfl
@[simp] theorem State.portRead_2_eiDelay : ((s.portRead p).2).eiDelay = s.eiDelay := rfl
@[simp] theorem State.portRead_2_im : ((s.portRead p).2).im = s.im := rfl
@[simp] theorem State.portRead_2_halted : ((s.portRead p).2).halted = s.halted := rfl
@[simp] theorem State.portRead_2_nmiPending : ((s.portRead p).2).nmiPending = s.nmiPending := rfl
@[simp] theorem State.portRead_2_intPending : ((s.portRead p).2).intPending = s.intPending := rfl
@[simp] theorem State.portRead_2_bus : ((s.portRead p).2).bus = (s.bus.readPort p).2 := rfl
@[simp] theorem State.portRead_2_resetRegs : ((s.portRead p).2).resetRegs = s.resetRegs := rfl
@[simp] theorem State.portRead_2_freeCount : ((s.portRead p).2).freeCount = s.freeCount := rfl
@[simp] theorem State.portRead_2_tStates : ((s.portRead p).2).tStates = s.tStates := rfl
end

/-- The fields that `setIndex` never touches. -/
@[simp] theorem State.setIndex_frame (s : State) (ii : IndexReg) (v : Word) :
    (s.setIndex ii v).a = s.a ∧ (s.setIndex ii v).f = s.f ∧ (s.setIndex ii v).b = s.b ∧ (s.setIndex ii v).c = s.c ∧
    (s.setIndex ii v).d = s.d ∧ (s.setIndex ii v).e = s.e ∧ (s.setIndex ii v).h = s.h ∧ (s.setIndex ii v).l = s.l ∧
    (s.setIndex ii v).a' = s.a' ∧ (s.setIndex ii v).f' = s.f' ∧ (s.setIndex ii v).b' = s.b' ∧ (s.setIndex ii v).c' = s.c' ∧
    (s.setIndex ii v).d' = s.d' ∧ (s.setIndex ii v).e' = s.e' ∧ (s.setIndex ii v).h' = s.h' ∧ (s.setIndex ii v).l' = s.l' ∧
    (s.setIndex ii v).sp = s.sp ∧ (s.setIndex ii v).pc = s.pc ∧ (s.setIndex ii v).i = s.i ∧ (s.setIndex ii v).r = s.r ∧
    (s.setIndex ii v).iff1 = s.iff1 ∧ (s.setIndex ii v).iff2 = s.iff2 ∧ (s.setIndex ii v).eiDelay = s.eiDelay ∧ (s.setIndex ii v).im = s.im ∧
    (s.setIndex ii v).halted = s.halted ∧ (s.setIndex ii v).nmiPending = s.nmiPending ∧ (s.setIndex ii v).intPending = s.intPending ∧ (s.setIndex ii v).bus = s.bus ∧
    (s.setIndex ii v).resetRegs = s.resetRegs ∧ (s.setIndex ii v).freeCount = s.freeCount ∧ (s.setIndex ii v).tStates = s.tStates := by
  cases ii <;> simp [State.setIndex]

/-- The fields that `setR` never touches. -/
@[simp] theorem State.setR_frame (s : State) (k : Reg8) (v : Byte) :
    (s.setR k v).f = s.f ∧ (s.setR k v).a' = s.a' ∧ (s.setR k v).f' = s.f' ∧ (s.setR k v).b' = s.b' ∧
    (s.setR k v).c' = s.c' ∧ (s.setR k v).d' = s.d' ∧ (s.setR k v).e' = s.e' ∧ (s.setR k v).h' = s.h' ∧
    (s.setR k v).l' = s.l' ∧ (s.setR k v).ix = s.ix ∧ (s.setR k v).iy = s.iy ∧ (s.setR k v).sp = s.sp ∧
    (s.setR k v).pc = s.pc ∧ (s.setR k v).i = s.i ∧ (s.setR k v).r = s.r ∧ (s.setR k v).iff1 = s.iff1 ∧
    (s.setR k v).iff2 = s.iff2 ∧ (s.setR k v).eiDelay = s.eiDelay ∧ (s.setR k v).im = s.im ∧ (s.setR k v).halted = s.halted ∧
    (s.setR k v).nmiPending = s.nmiPending ∧ (s.setR k v).intPending = s.intPending ∧ (s.setR k v).bus = s.bus ∧ (s.setR k v).resetRegs = s.resetRegs ∧
    (s.setR k v).freeCount = s.freeCount ∧ (s.setR k v).tStates = s.tStates := by
  cases k <;> simp [State.setR]

/-- The fields that `setP` never touches. -/
@[simp] theorem State.setP_frame (s : State) (ii : IndexReg) (k : PReg) (v : Byte) :
    (s.setP ii k v).f = s.f ∧ (s.setP ii k v).h = s.h ∧ (s.setP ii k v).l = s.l ∧ (s.setP ii k v).a' = s.a' ∧
    (s.setP ii k v).f' = s.f' ∧ (s.setP ii k v).b' = s.b' ∧ (s.setP ii k v).c' = s.c' ∧ (s.setP ii k v).d' = s.d' ∧
    (s.setP ii k v).e' = s.e' ∧ (s.setP ii k v).h' = s.h' ∧ (s.setP ii k v).l' = s.l' ∧ (s.setP ii k v).sp = s.sp ∧
    (s.setP ii k v).pc = s.pc ∧ (s.setP ii k v).i = s.i ∧ (s.setP ii k v).r = s.r ∧ (s.setP ii k v).iff1 = s.iff1 ∧
    (s.setP ii k v).iff2 = s.iff2 ∧ (s.setP ii k v).eiDelay = s.eiDelay ∧ (s.setP ii k v).im = s.im ∧ (s.setP ii k v).halted = s.halted ∧
    (s.setP ii k v).nmiPending = s.nmiPending ∧ (s.setP ii k v).intPending = s.intPending ∧ (s.setP ii k v).bus = s.bus ∧ (s.setP ii k v).resetRegs = s.resetRegs ∧
    (s.setP ii k v).freeCount = s.freeCount ∧ (s.setP ii k v).tStates = s.tStates := by
  cases k <;> cases ii <;> simp [State.setP, State.setIndex]

/-- The fields that `setRP` never touches. -/
@[simp] theorem State.setRP_frame (s : State) (p : RP) (v : Word) :
    (s.setRP p v).a = s.a ∧ (s.setRP p v).f = s.f ∧ (s.setRP p v).a' = s.a' ∧ (s.setRP p v).f' = s.f' ∧
    (s.setRP p v).b' = s.b' ∧ (s.setRP p v).c' = s.c' ∧ (s.setRP p v).d' = s.d' ∧ (s.setRP p v).e' = s.e' ∧
    (s.setRP p v).h' = s.h' ∧ (s.setRP p v).l' = s.l' ∧ (s.setRP p v).ix = s.ix ∧ (s.setRP p v).iy = s.iy ∧
    (s.setRP p v).pc = s.pc ∧ (s.setRP p v).i = s.i ∧ (s.setRP p v).r = s.r ∧ (s.setRP p v).iff1 = s.iff1 ∧
    (s.setRP p v).iff2 = s.iff2 ∧ (s.setRP p v).eiDelay = s.eiDelay ∧ (s.setRP p v).im = s.im ∧ (s.setRP p v).halted = s.halted ∧
    (s.setRP p v).nmiPending = s.nmiPending ∧ (s.setRP p v).intPending = s.intPending ∧ (s.setRP p v).bus = s.bus ∧ (s.setRP p v).resetRegs = s.resetRegs ∧
    (s.setRP p v).freeCount = s.freeCount ∧ (s.setRP p v).tStates = s.tStates := by
  cases p <;> simp [State.setRP]

/-- The fields that `setRP2` never touches. -/
@[simp] theorem State.setRP2_frame (s : State) (p : RP2) (v : Word) :
    (s.setRP2 p v).a' = s.a' ∧ (s.setRP2 p v).f' = s.f' ∧ (s.setRP2 p v).b' = s.b' ∧ (s.setRP2 p v).c' = s.c' ∧
    (s.setRP2 p v).d' = s.d' ∧ (s.setRP2 p v).e' = s.e' ∧ (s.setRP2 p v).h' = s.h' ∧ (s.setRP2 p v).l' = s.l' ∧
    (s.setRP2 p v).ix = s.ix ∧ (s.setRP2 p v).iy = s.iy ∧ (s.setRP2 p v).sp = s.sp ∧ (s.setRP2 p v).pc = s.pc ∧
    (s.setRP2 p v).i = s.i ∧ (s.setRP2 p v).r = s.r ∧ (s.setRP2 p v).iff1 = s.iff1 ∧ (s.setRP2 p v).iff2 = s.iff2 ∧
    (s.setRP2 p v).eiDelay = s.eiDelay ∧ (s.setRP2 p v).im = s.im ∧ (s.setRP2 p v).halted = s.halted ∧ (s.setRP2 p v).nmiPending = s.nmiPending ∧
    (s.setRP2 p v).intPending = s.intPending ∧ (s.setRP2 p v).bus = s.bus ∧ (s.setRP2 p v).resetRegs = s.resetRegs ∧ (s.setRP2 p v).freeCount = s.freeCount ∧
    (s.setRP2 p v).tStates = s.tStates := by
  cases p <;> simp [State.setRP2]

/-! ## Reading back what was written (R21, R23) -/

@[simp] theorem State.getR_setR_same (s : State) (k : Reg8) (v : Byte) : (s.setR k v).getR k = v := by
  cases k <;> rfl

theorem State.getR_setR_other (s : State) (k j : Reg8) (v : Byte) (h : j ≠ k) : (s.setR k v).getR j = s.getR j := by
  cases k <;> cases j <;> first | rfl | exact absurd rfl h

@[simp] theorem State.index_setIndex_same (s : State) (ii : IndexReg) (v : Word) : (s.setIndex ii v).index ii = v := by
  cases ii <;> rfl

theorem State.index_setIndex_other (s : State) (ii jj : IndexReg) (v : Word) (h : jj ≠ ii) :
    (s.setIndex ii v).index jj = s.index jj := by
  cases ii <;> cases jj <;> first | rfl | exact absurd rfl h

end Sys2Proof.Machine
end

