-- ==== Sys2Proof/Laws/Ops.lean ====
section
/-!
SUPPORT. For each shared operation, everything it can do, said once: the state it leaves as one record, and that it
keeps the canonical form of memory.
-/

namespace Sys2Proof.Machine

/-! ## Memory, ports and stack -/

@[simp] theorem State.peek_memWrite_same (s : State) (a : Word) (v : Byte) (h : s.bus.memAnswer a = .ram) :
    (s.memWrite a v).peek a = v :=
  Bus.cell_write_same _ _ _ h

theorem State.peek_memWrite_other (s : State) (a b : Word) (v : Byte) (h : b ≠ a) :
    (s.memWrite a v).peek b = s.peek b :=
  Bus.cell_write_other _ _ _ _ h

theorem State.memRead_eq (s : State) (a : Word) :
    s.memRead a = ((s.bus.read a).1, { s with bus := (s.bus.read a).2 }) := rfl

theorem State.memRead16_eq (s : State) (a : Word) :
    s.memRead16 a = (mkWord ((s.bus.read a).2.read (a + 1)).1 (s.bus.read a).1,
      { s with bus := ((s.bus.read a).2.read (a + 1)).2 }) := rfl

theorem State.memWrite_eq (s : State) (a : Word) (v : Byte) : s.memWrite a v = { s with bus := s.bus.write a v } := rfl

theorem State.memWrite16_eq (s : State) (a v : Word) :
    s.memWrite16 a v = { s with bus := (s.bus.write a (loByte v)).write (a + 1) (hiByte v) } := rfl

theorem State.push16_eq (s : State) (v : Word) :
    s.push16 v =
      { s with
        sp := s.sp - 1 - 1
        bus := (s.bus.write (s.sp - 1) (hiByte v)).write (s.sp - 1 - 1) (loByte v) } := rfl

theorem State.pop16_eq (s : State) :
    s.pop16 = (mkWord ((s.bus.read s.sp).2.read (s.sp + 1)).1 (s.bus.read s.sp).1,
      { s with sp := s.sp + 1 + 1, bus := ((s.bus.read s.sp).2.read (s.sp + 1)).2 }) := rfl

theorem State.portRead_eq (s : State) (p : Word) :
    s.portRead p = ((s.bus.readPort p).1, { s with bus := (s.bus.readPort p).2 }) := rfl

theorem State.portWrite_eq (s : State) (p : Word) (v : Byte) :
    s.portWrite p v = { s with bus := s.bus.writePort p v } := rfl

/-- What `modifyAt` answers and leaves: one read, F, one write of the same address. -/
theorem State.modifyAt_eq (s : State) (a : Word) (g : Byte → Byte → Byte × Byte) :
    s.modifyAt a g = ((g (s.bus.read a).1 s.f).1,
      { s with
        f := (g (s.bus.read a).1 s.f).2
        bus := (s.bus.read a).2.write a (g (s.bus.read a).1 s.f).1 }) := by
  simp [State.modifyAt, State.memRead, State.setF, State.memWrite]

/-! ## Operations of the families -/

theorem State.exchangeTop_eq (s : State) (v : Word) :
    s.exchangeTop v = (mkWord ((s.bus.read s.sp).2.read (s.sp + 1)).1 (s.bus.read s.sp).1,
      { s with
        bus := (((s.bus.read s.sp).2.read (s.sp + 1)).2.write (s.sp + 1) (hiByte v)).write s.sp (loByte v) }) := by
  simp [State.exchangeTop, State.memRead16_eq, State.memWrite]

theorem State.call_eq (s : State) (target : Word) :
    s.call target =
      { s with
        pc := target, sp := s.sp - 1 - 1
        bus := (s.bus.write (s.sp - 1) (hiByte s.pc)).write (s.sp - 1 - 1) (loByte s.pc) } := by
  simp [State.call, State.jump, State.push16_eq]

theorem State.popPC_eq (s : State) :
    s.popPC =
      { s with
        pc := mkWord ((s.bus.read s.sp).2.read (s.sp + 1)).1 (s.bus.read s.sp).1, sp := s.sp + 1 + 1
        bus := ((s.bus.read s.sp).2.read (s.sp + 1)).2 } := by
  simp [State.popPC, State.jump, State.pop16_eq]

theorem State.blockMove_eq (s : State) (step : Word) :
    s.blockMove step =
      { s with
        b := hiByte (s.bc - 1), c := loByte (s.bc - 1), d := hiByte (s.de + step), e := loByte (s.de + step)
        h := hiByte (s.hl + step), l := loByte (s.hl + step)
        f := blockMoveFlags (s.bus.read s.hl).1 s.a (s.bc - 1) s.f
        bus := (s.bus.read s.hl).2.write s.de (s.bus.read s.hl).1 } := by
  simp [State.blockMove, State.memRead, State.memWrite, State.setF, State.setBC, State.setDE, State.setHL, State.bc]

theorem State.blockCompare_eq (s : State) (step : Word) :
    s.blockCompare step = (s.a - (s.bus.read s.hl).1 != 0,
      { s with
        b := hiByte (s.bc - 1), c := loByte (s.bc - 1), h := hiByte (s.hl + step), l := loByte (s.hl + step)
        f := blockCompareFlags s.a (s.bus.read s.hl).1 (s.bc - 1) s.f
        bus := (s.bus.read s.hl).2 }) := by
  simp [State.blockCompare, State.memRead, State.setF, State.setBC, State.setHL, State.bc]

theorem State.blockIn_eq (s : State) (step : Word) :
    s.blockIn step =
      { s with
        b := s.b - 1, h := hiByte (s.hl + step), l := loByte (s.hl + step)
        f := blockIoFlags (s.b - 1) (s.bus.readPort s.bc).1 (s.c + loByte step)
        bus := (s.bus.readPort s.bc).2.write s.hl (s.bus.readPort s.bc).1 } := by
  simp [State.blockIn, State.memWrite, State.portRead, State.setF, State.setHL]

theorem State.blockOut_eq (s : State) (step : Word) :
    s.blockOut step =
      { s with
        b := s.b - 1, h := hiByte (s.hl + step), l := loByte (s.hl + step)
        f := blockIoFlags (s.b - 1) (s.bus.read s.hl).1 (loByte (s.hl + step))
        bus := (s.bus.read s.hl).2.writePort (mkWord (s.b - 1) s.c) (s.bus.read s.hl).1 } := by
  simp [State.blockOut, State.memRead, State.portWrite, State.setF, State.setHL, State.bc]

/-- The end of a repeating instruction: PC and the T-states, nothing else. -/
theorem State.repeatIf_eq (s : State) (again : Bool) :
    s.repeatIf again =
      { s with
        pc := if again then s.pc - 2 else s.pc
        tStates := s.tStates + if again then 21 else 16 } := by
  cases again <;> rfl

/-! ## Handlers -/

theorem State.enterHandler_eq (s : State) :
    s.enterHandler =
      { s with
        halted := false, r := bumpR s.r, sp := s.sp - 1 - 1
        bus := (s.bus.write (s.sp - 1) (hiByte s.pc)).write (s.sp - 1 - 1) (loByte s.pc) } := by
  simp [State.enterHandler, State.push16_eq]

theorem State.returnFromHandler_eq (s : State) :
    s.returnFromHandler =
      { s with
        pc := mkWord ((s.bus.read s.sp).2.read (s.sp + 1)).1 (s.bus.read s.sp).1, iff1 := s.iff2, sp := s.sp + 1 + 1
        bus := ((s.bus.read s.sp).2.read (s.sp + 1)).2 } := by
  simp [State.returnFromHandler, State.pop16_eq]

/-- The acceptance of a maskable interrupt goes on in modes 1 and 2, and in mode 0 for a restart byte. -/
theorem State.acceptInt_next {s s' : State} {d : Byte} (h : s.acceptInt d = .next s') :
    let s1 := ({ s with intPending := none, iff1 := false, iff2 := false }).enterHandler
    (s.im = .im0 ∧ isRestart d = true ∧ s' = ({ s1 with pc := zext16 (d &&& 0x38) }).tick 13) ∨
    (s.im = .im1 ∧ s' = ({ s1 with pc := 0x0038 }).tick 13) ∨
    (s.im = .im2 ∧ s' = ({ (s1.memRead16 (mkWord s.i d)).2 with pc := (s1.memRead16 (mkWord s.i d)).1 }).tick 19) := by
  unfold State.acceptInt at h
  cases him : s.im <;> simp only [him] at h
  · split at h
    · injection h with h
      exact .inl ⟨rfl, ‹_›, h.symm⟩
    · cases h
  · injection h with h
    exact .inr (.inl ⟨rfl, h.symm⟩)
  · injection h with h
    exact .inr (.inr ⟨rfl, h.symm⟩)

/-! ## Fetch -/

theorem State.fetchByte_eq (s : State) :
    s.fetchByte = ((s.bus.fetch s.pc).1, { s with pc := s.pc + 1, bus := (s.bus.fetch s.pc).2 }) := rfl

theorem State.fetchM1_eq (s : State) :
    s.fetchM1 = ((s.bus.fetch s.pc).1, { s with pc := s.pc + 1, r := bumpR s.r, bus := (s.bus.fetch s.pc).2 }) := rfl

/-- As many bytes as asked for. -/
@[simp] theorem State.length_fetchBytes (n : Nat) (s : State) : (s.fetchBytes n).1.length = n := by
  induction n generalizing s with
  | zero => rfl
  | succ k ih => simp [State.fetchBytes, ih]

/-- Fetching moves PC and asks the bus agent; nothing else. -/
theorem State.fetchBytes_eq (n : Nat) (s : State) :
    (s.fetchBytes n).2 = { s with pc := s.pc + BitVec.ofNat 16 n, bus := (s.fetchBytes n).2.bus } := by
  induction n generalizing s with
  | zero => simp [State.fetchBytes]
  | succ k ih =>
    have hpc : s.pc + 1 + BitVec.ofNat 16 k = s.pc + BitVec.ofNat 16 (k + 1) := by
      rw [BitVec.add_assoc, Nat.add_comm k 1, BitVec.ofNat_add]
      rfl
    rw [State.fetchBytes]
    change (s.fetchByte.2.fetchBytes k).2 = _
    rw [ih s.fetchByte.2, ← hpc]
    rfl

/-- Fetching the other bytes of an instruction moves PC and asks the bus agent; nothing else. -/
theorem State.fetchOperands_eq (opcode : List Byte) (s : State) :
    (s.fetchOperands opcode).2 =
      { s with
        pc := s.pc + BitVec.ofNat 16 ((decodePadded opcode).2 - opcode.length)
        bus := (s.fetchOperands opcode).2.bus } := by
  rw [State.fetchOperands, State.fetchBytes_eq]

/-- `n` fetches record `n` accesses. -/
theorem State.extends_fetchBytes (n : Nat) (s : State) : s.bus.Extends (s.fetchBytes n).2.bus n := by
  induction n generalizing s with
  | zero => exact Bus.Extends.refl _
  | succ k ih =>
    have h := (s.bus.extends_fetch s.pc).trans (ih s.fetchByte.2)
    rwa [Nat.add_comm] at h

/-! ## The canonical form of memory under the operations -/

theorem State.wf_memWrite {s : State} (a : Word) (v : Byte) (h : Memory.wf s.bus.mem = true) :
    Memory.wf (s.memWrite a v).bus.mem = true :=
  (s.bus.extends_write a v).wf h

theorem State.wf_memWrite16 {s : State} (a v : Word) (h : Memory.wf s.bus.mem = true) :
    Memory.wf (s.memWrite16 a v).bus.mem = true :=
  State.wf_memWrite _ _ (State.wf_memWrite _ _ h)

theorem State.wf_push16 {s : State} (v : Word) (h : Memory.wf s.bus.mem = true) :
    Memory.wf (s.push16 v).bus.mem = true :=
  ((s.bus.extends_write _ _).trans (Bus.extends_write _ _ _)).wf h

theorem State.wf_modifyAt {s : State} (a : Word) (g : Byte → Byte → Byte × Byte) (h : Memory.wf s.bus.mem = true) :
    Memory.wf (s.modifyAt a g).2.bus.mem = true :=
  ((s.bus.extends_read _).trans (Bus.extends_write _ _ _)).wf h

theorem State.wf_enterHandler {s : State} (h : Memory.wf s.bus.mem = true) :
    Memory.wf s.enterHandler.bus.mem = true :=
  ((s.bus.extends_write _ _).trans (Bus.extends_write _ _ _)).wf h

@[simp] theorem State.mem_fetchBytes (n : Nat) (s : State) : (s.fetchBytes n).2.bus.mem = s.bus.mem := by
  induction n generalizing s with
  | zero => rfl
  | succ k ih =>
    change (s.fetchByte.2.fetchBytes k).2.bus.mem = _
    rw [ih]
    exact Bus.mem_fetch _ _

@[simp] theorem State.mem_fetchOperands (opcode : List Byte) (s : State) :
    (s.fetchOperands opcode).2.bus.mem = s.bus.mem :=
  State.mem_fetchBytes _ _

end Sys2Proof.Machine
end

