-- ==== Sys2Proof/Laws/PerInstr.lean ====
section
/-!
SUPPORT. Statements made per instruction.
-/

namespace Sys2Proof.Laws

/-- A well-formed instruction has one to four bytes (R100, R116). -/
def EncodeLength.Statement (i : Instr) : Prop :=
  i.WellFormed = true → 1 ≤ (encode i).length ∧ (encode i).length ≤ 4

theorem EncodeLength.ldRR (y z : Reg8) : EncodeLength.Statement (.ldRR y z) := fun _ => ⟨Nat.le_of_ble_eq_true rfl, Nat.le_of_ble_eq_true rfl⟩
theorem EncodeLength.ldRN (y : Reg8) (n : Byte) : EncodeLength.Statement (.ldRN y n) := fun _ => ⟨Nat.le_of_ble_eq_true rfl, Nat.le_of_ble_eq_true rfl⟩
theorem EncodeLength.ldRAtHL (y : Reg8) : EncodeLength.Statement (.ldRAtHL y) := fun _ => ⟨Nat.le_of_ble_eq_true rfl, Nat.le_of_ble_eq_true rfl⟩
theorem EncodeLength.ldAtHLR (z : Reg8) : EncodeLength.Statement (.ldAtHLR z) := fun _ => ⟨Nat.le_of_ble_eq_true rfl, Nat.le_of_ble_eq_true rfl⟩
theorem EncodeLength.ldAtHLN (n : Byte) : EncodeLength.Statement (.ldAtHLN n) := fun _ => ⟨Nat.le_of_ble_eq_true rfl, Nat.le_of_ble_eq_true rfl⟩
theorem EncodeLength.ldAAtBC : EncodeLength.Statement (.ldAAtBC) := fun _ => ⟨Nat.le_of_ble_eq_true rfl, Nat.le_of_ble_eq_true rfl⟩
theorem EncodeLength.ldAAtDE : EncodeLength.Statement (.ldAAtDE) := fun _ => ⟨Nat.le_of_ble_eq_true rfl, Nat.le_of_ble_eq_true rfl⟩
theorem EncodeLength.ldAAtNn (nn : Word) : EncodeLength.Statement (.ldAAtNn nn) := fun _ => ⟨Nat.le_of_ble_eq_true rfl, Nat.le_of_ble_eq_true rfl⟩
theorem EncodeLength.ldAtBCA : EncodeLength.Statement (.ldAtBCA) := fun _ => ⟨Nat.le_of_ble_eq_true rfl, Nat.le_of_ble_eq_true rfl⟩
theorem EncodeLength.ldAtDEA : EncodeLength.Statement (.ldAtDEA) := fun _ => ⟨Nat.le_of_ble_eq_true rfl, Nat.le_of_ble_eq_true rfl⟩
theorem EncodeLength.ldAtNnA (nn : Word) : EncodeLength.Statement (.ldAtNnA nn) := fun _ => ⟨Nat.le_of_ble_eq_true rfl, Nat.le_of_ble_eq_true rfl⟩
theorem EncodeLength.ldIA : EncodeLength.Statement (.ldIA) := fun _ => ⟨Nat.le_of_ble_eq_true rfl, Nat.le_of_ble_eq_true rfl⟩
theorem EncodeLength.ldRA : EncodeLength.Statement (.ldRA) := fun _ => ⟨Nat.le_of_ble_eq_true rfl, Nat.le_of_ble_eq_true rfl⟩
theorem EncodeLength.ldAI : EncodeLength.Statement (.ldAI) := fun _ => ⟨Nat.le_of_ble_eq_true rfl, Nat.le_of_ble_eq_true rfl⟩
theorem EncodeLength.ldAR : EncodeLength.Statement (.ldAR) := fun _ => ⟨Nat.le_of_ble_eq_true rfl, Nat.le_of_ble_eq_true rfl⟩
theorem EncodeLength.ldRIdx (ii : IndexReg) (y : Reg8) (d : Byte) : EncodeLength.Statement (.ldRIdx ii y d) := fun _ => ⟨Nat.le_of_ble_eq_true rfl, Nat.le_of_ble_eq_true rfl⟩
theorem EncodeLength.ldIdxR (ii : IndexReg) (z : Reg8) (d : Byte) : EncodeLength.Statement (.ldIdxR ii z d) := fun _ => ⟨Nat.le_of_ble_eq_true rfl, Nat.le_of_ble_eq_true rfl⟩
theorem EncodeLength.ldIdxN (ii : IndexReg) (d n : Byte) : EncodeLength.Statement (.ldIdxN ii d n) := fun _ => ⟨Nat.le_of_ble_eq_true rfl, Nat.le_of_ble_eq_true rfl⟩
theorem EncodeLength.ldPP (ii : IndexReg) (y z : PReg) : EncodeLength.Statement (.ldPP ii y z) := fun _ => ⟨Nat.le_of_ble_eq_true rfl, Nat.le_of_ble_eq_true rfl⟩
theorem EncodeLength.ldPN (ii : IndexReg) (y : PReg) (n : Byte) : EncodeLength.Statement (.ldPN ii y n) := fun _ => ⟨Nat.le_of_ble_eq_true rfl, Nat.le_of_ble_eq_true rfl⟩
theorem EncodeLength.ldDdNn (p : RP) (nn : Word) : EncodeLength.Statement (.ldDdNn p nn) := fun _ => ⟨Nat.le_of_ble_eq_true rfl, Nat.le_of_ble_eq_true rfl⟩
theorem EncodeLength.ldHLAtNn (nn : Word) : EncodeLength.Statement (.ldHLAtNn nn) := fun _ => ⟨Nat.le_of_ble_eq_true rfl, Nat.le_of_ble_eq_true rfl⟩
theorem EncodeLength.ldAtNnHL (nn : Word) : EncodeLength.Statement (.ldAtNnHL nn) := fun _ => ⟨Nat.le_of_ble_eq_true rfl, Nat.le_of_ble_eq_true rfl⟩
theorem EncodeLength.ldDdAtNn (p : RP) (nn : Word) : EncodeLength.Statement (.ldDdAtNn p nn) := fun _ => ⟨Nat.le_of_ble_eq_true rfl, Nat.le_of_ble_eq_true rfl⟩
theorem EncodeLength.ldAtNnDd (p : RP) (nn : Word) : EncodeLength.Statement (.ldAtNnDd p nn) := fun _ => ⟨Nat.le_of_ble_eq_true rfl, Nat.le_of_ble_eq_true rfl⟩
theorem EncodeLength.ldSPHL : EncodeLength.Statement (.ldSPHL) := fun _ => ⟨Nat.le_of_ble_eq_true rfl, Nat.le_of_ble_eq_true rfl⟩
theorem EncodeLength.pushQq (p : RP2) : EncodeLength.Statement (.pushQq p) := fun _ => ⟨Nat.le_of_ble_eq_true rfl, Nat.le_of_ble_eq_true rfl⟩
theorem EncodeLength.popQq (p : RP2) : EncodeLength.Statement (.popQq p) := fun _ => ⟨Nat.le_of_ble_eq_true rfl, Nat.le_of_ble_eq_true rfl⟩
theorem EncodeLength.exDEHL : EncodeLength.Statement (.exDEHL) := fun _ => ⟨Nat.le_of_ble_eq_true rfl, Nat.le_of_ble_eq_true rfl⟩
theorem EncodeLength.exAFAF : EncodeLength.Statement (.exAFAF) := fun _ => ⟨Nat.le_of_ble_eq_true rfl, Nat.le_of_ble_eq_true rfl⟩
theorem EncodeLength.exx : EncodeLength.Statement (.exx) := fun _ => ⟨Nat.le_of_ble_eq_true rfl, Nat.le_of_ble_eq_true rfl⟩
theorem EncodeLength.exAtSPHL : EncodeLength.Statement (.exAtSPHL) := fun _ => ⟨Nat.le_of_ble_eq_true rfl, Nat.le_of_ble_eq_true rfl⟩
theorem EncodeLength.ldIiNn (ii : IndexReg) (nn : Word) : EncodeLength.Statement (.ldIiNn ii nn) := fun _ => ⟨Nat.le_of_ble_eq_true rfl, Nat.le_of_ble_eq_true rfl⟩
theorem EncodeLength.ldIiAtNn (ii : IndexReg) (nn : Word) : EncodeLength.Statement (.ldIiAtNn ii nn) := fun _ => ⟨Nat.le_of_ble_eq_true rfl, Nat.le_of_ble_eq_true rfl⟩
theorem EncodeLength.ldAtNnIi (ii : IndexReg) (nn : Word) : EncodeLength.Statement (.ldAtNnIi ii nn) := fun _ => ⟨Nat.le_of_ble_eq_true rfl, Nat.le_of_ble_eq_true rfl⟩
theorem EncodeLength.ldSPIi (ii : IndexReg) : EncodeLength.Statement (.ldSPIi ii) := fun _ => ⟨Nat.le_of_ble_eq_true rfl, Nat.le_of_ble_eq_true rfl⟩
theorem EncodeLength.pushIi (ii : IndexReg) : EncodeLength.Statement (.pushIi ii) := fun _ => ⟨Nat.le_of_ble_eq_true rfl, Nat.le_of_ble_eq_true rfl⟩
theorem EncodeLength.popIi (ii : IndexReg) : EncodeLength.Statement (.popIi ii) := fun _ => ⟨Nat.le_of_ble_eq_true rfl, Nat.le_of_ble_eq_true rfl⟩
theorem EncodeLength.exAtSPIi (ii : IndexReg) : EncodeLength.Statement (.exAtSPIi ii) := fun _ => ⟨Nat.le_of_ble_eq_true rfl, Nat.le_of_ble_eq_true rfl⟩
theorem EncodeLength.addR (z : Reg8) : EncodeLength.Statement (.addR z) := fun _ => ⟨Nat.le_of_ble_eq_true rfl, Nat.le_of_ble_eq_true rfl⟩
theorem EncodeLength.addN (n : Byte) : EncodeLength.Statement (.addN n) := fun _ => ⟨Nat.le_of_ble_eq_true rfl, Nat.le_of_ble_eq_true rfl⟩
theorem EncodeLength.addAtHL : EncodeLength.Statement (.addAtHL) := fun _ => ⟨Nat.le_of_ble_eq_true rfl, Nat.le_of_ble_eq_true rfl⟩
theorem EncodeLength.addIdx (ii : IndexReg) (d : Byte) : EncodeLength.Statement (.addIdx ii d) := fun _ => ⟨Nat.le_of_ble_eq_true rfl, Nat.le_of_ble_eq_true rfl⟩
theorem EncodeLength.addP (ii : IndexReg) (z : PReg) : EncodeLength.Statement (.addP ii z) := fun _ => ⟨Nat.le_of_ble_eq_true rfl, Nat.le_of_ble_eq_true rfl⟩
theorem EncodeLength.adcR (z : Reg8) : EncodeLength.Statement (.adcR z) := fun _ => ⟨Nat.le_of_ble_eq_true rfl, Nat.le_of_ble_eq_true rfl⟩
theorem EncodeLength.adcN (n : Byte) : EncodeLength.Statement (.adcN n) := fun _ => ⟨Nat.le_of_ble_eq_true rfl, Nat.le_of_ble_eq_true rfl⟩
theorem EncodeLength.adcAtHL : EncodeLength.Statement (.adcAtHL) := fun _ => ⟨Nat.le_of_ble_eq_true rfl, Nat.le_of_ble_eq_true rfl⟩
theorem EncodeLength.adcIdx (ii : IndexReg) (d : Byte) : EncodeLength.Statement (.adcIdx ii d) := fun _ => ⟨Nat.le_of_ble_eq_true rfl, Nat.le_of_ble_eq_true rfl⟩
theorem EncodeLength.adcP (ii : IndexReg) (z : PReg) : EncodeLength.Statement (.adcP ii z) := fun _ => ⟨Nat.le_of_ble_eq_true rfl, Nat.le_of_ble_eq_true rfl⟩
theorem EncodeLength.subR (z : Reg8) : EncodeLength.Statement (.subR z) := fun _ => ⟨Nat.le_of_ble_eq_true rfl, Nat.le_of_ble_eq_true rfl⟩
theorem EncodeLength.subN (n : Byte) : EncodeLength.Statement (.subN n) := fun _ => ⟨Nat.le_of_ble_eq_true rfl, Nat.le_of_ble_eq_true rfl⟩
theorem EncodeLength.subAtHL : EncodeLength.Statement (.subAtHL) := fun _ => ⟨Nat.le_of_ble_eq_true rfl, Nat.le_of_ble_eq_true rfl⟩
theorem EncodeLength.subIdx (ii : IndexReg) (d : Byte) : EncodeLength.Statement (.subIdx ii d) := fun _ => ⟨Nat.le_of_ble_eq_true rfl, Nat.le_of_ble_eq_true rfl⟩
theorem EncodeLength.subP (ii : IndexReg) (z : PReg) : EncodeLength.Statement (.subP ii z) := fun _ => ⟨Nat.le_of_ble_eq_true rfl, Nat.le_of_ble_eq_true rfl⟩
theorem EncodeLength.sbcR (z : Reg8) : EncodeLength.Statement (.sbcR z) := fun _ => ⟨Nat.le_of_ble_eq_true rfl, Nat.le_of_ble_eq_true rfl⟩
theorem EncodeLength.sbcN (n : Byte) : EncodeLength.Statement (.sbcN n) := fun _ => ⟨Nat.le_of_ble_eq_true rfl, Nat.le_of_ble_eq_true rfl⟩
theorem EncodeLength.sbcAtHL : EncodeLength.Statement (.sbcAtHL) := fun _ => ⟨Nat.le_of_ble_eq_true rfl, Nat.le_of_ble_eq_true rfl⟩
theorem EncodeLength.sbcIdx (ii : IndexReg) (d : Byte) : EncodeLength.Statement (.sbcIdx ii d) := fun _ => ⟨Nat.le_of_ble_eq_true rfl, Nat.le_of_ble_eq_true rfl⟩
theorem EncodeLength.sbcP (ii : IndexReg) (z : PReg) : EncodeLength.Statement (.sbcP ii z) := fun _ => ⟨Nat.le_of_ble_eq_true rfl, Nat.le_of_ble_eq_true rfl⟩
theorem EncodeLength.andR (z : Reg8) : EncodeLength.Statement (.andR z) := fun _ => ⟨Nat.le_of_ble_eq_true rfl, Nat.le_of_ble_eq_true rfl⟩
theorem EncodeLength.andN (n : Byte) : EncodeLength.Statement (.andN n) := fun _ => ⟨Nat.le_of_ble_eq_true rfl, Nat.le_of_ble_eq_true rfl⟩
theorem EncodeLength.andAtHL : EncodeLength.Statement (.andAtHL) := fun _ => ⟨Nat.le_of_ble_eq_true rfl, Nat.le_of_ble_eq_true rfl⟩
theorem EncodeLength.andIdx (ii : IndexReg) (d : Byte) : EncodeLength.Statement (.andIdx ii d) := fun _ => ⟨Nat.le_of_ble_eq_true rfl, Nat.le_of_ble_eq_true rfl⟩
theorem EncodeLength.andP (ii : IndexReg) (z : PReg) : EncodeLength.Statement (.andP ii z) := fun _ => ⟨Nat.le_of_ble_eq_true rfl, Nat.le_of_ble_eq_true rfl⟩
theorem EncodeLength.xorR (z : Reg8) : EncodeLength.Statement (.xorR z) := fun _ => ⟨Nat.le_of_ble_eq_true rfl, Nat.le_of_ble_eq_true rfl⟩
theorem EncodeLength.xorN (n : Byte) : EncodeLength.Statement (.xorN n) := fun _ => ⟨Nat.le_of_ble_eq_true rfl, Nat.le_of_ble_eq_true rfl⟩
theorem EncodeLength.xorAtHL : EncodeLength.Statement (.xorAtHL) := fun _ => ⟨Nat.le_of_ble_eq_true rfl, Nat.le_of_ble_eq_true rfl⟩
theorem EncodeLength.xorIdx (ii : IndexReg) (d : Byte) : EncodeLength.Statement (.xorIdx ii d) := fun _ => ⟨Nat.le_of_ble_eq_true rfl, Nat.le_of_ble_eq_true rfl⟩
theorem EncodeLength.xorP (ii : IndexReg) (z : PReg) : EncodeLength.Statement (.xorP ii z) := fun _ => ⟨Nat.le_of_ble_eq_true rfl, Nat.le_of_ble_eq_true rfl⟩
theorem EncodeLength.orR (z : Reg8) : EncodeLength.Statement (.orR z) := fun _ => ⟨Nat.le_of_ble_eq_true rfl, Nat.le_of_ble_eq_true rfl⟩
theorem EncodeLength.orN (n : Byte) : EncodeLength.Statement (.orN n) := fun _ => ⟨Nat.le_of_ble_eq_true rfl, Nat.le_of_ble_eq_true rfl⟩
theorem EncodeLength.orAtHL : EncodeLength.Statement (.orAtHL) := fun _ => ⟨Nat.le_of_ble_eq_true rfl, Nat.le_of_ble_eq_true rfl⟩
theorem EncodeLength.orIdx (ii : IndexReg) (d : Byte) : EncodeLength.Statement (.orIdx ii d) := fun _ => ⟨Nat.le_of_ble_eq_true rfl, Nat.le_of_ble_eq_true rfl⟩
theorem EncodeLength.orP (ii : IndexReg) (z : PReg) : EncodeLength.Statement (.orP ii z) := fun _ => ⟨Nat.le_of_ble_eq_true rfl, Nat.le_of_ble_eq_true rfl⟩
theorem EncodeLength.cpR (z : Reg8) : EncodeLength.Statement (.cpR z) := fun _ => ⟨Nat.le_of_ble_eq_true rfl, Nat.le_of_ble_eq_true rfl⟩
theorem EncodeLength.cpN (n : Byte) : EncodeLength.Statement (.cpN n) := fun _ => ⟨Nat.le_of_ble_eq_true rfl, Nat.le_of_ble_eq_true rfl⟩
theorem EncodeLength.cpAtHL : EncodeLength.Statement (.cpAtHL) := fun _ => ⟨Nat.le_of_ble_eq_true rfl, Nat.le_of_ble_eq_true rfl⟩
theorem EncodeLength.cpIdx (ii : IndexReg) (d : Byte) : EncodeLength.Statement (.cpIdx ii d) := fun _ => ⟨Nat.le_of_ble_eq_true rfl, Nat.le_of_ble_eq_true rfl⟩
theorem EncodeLength.cpP (ii : IndexReg) (z : PReg) : EncodeLength.Statement (.cpP ii z) := fun _ => ⟨Nat.le_of_ble_eq_true rfl, Nat.le_of_ble_eq_true rfl⟩
theorem EncodeLength.incR (y : Reg8) : EncodeLength.Statement (.incR y) := fun _ => ⟨Nat.le_of_ble_eq_true rfl, Nat.le_of_ble_eq_true rfl⟩
theorem EncodeLength.incAtHL : EncodeLength.Statement (.incAtHL) := fun _ => ⟨Nat.le_of_ble_eq_true rfl, Nat.le_of_ble_eq_true rfl⟩
theorem EncodeLength.decR (y : Reg8) : EncodeLength.Statement (.decR y) := fun _ => ⟨Nat.le_of_ble_eq_true rfl, Nat.le_of_ble_eq_true rfl⟩
theorem EncodeLength.decAtHL : EncodeLength.Statement (.decAtHL) := fun _ => ⟨Nat.le_of_ble_eq_true rfl, Nat.le_of_ble_eq_true rfl⟩
theorem EncodeLength.incP (ii : IndexReg) (y : PReg) : EncodeLength.Statement (.incP ii y) := fun _ => ⟨Nat.le_of_ble_eq_true rfl, Nat.le_of_ble_eq_true rfl⟩
theorem EncodeLength.decP (ii : IndexReg) (y : PReg) : EncodeLength.Statement (.decP ii y) := fun _ => ⟨Nat.le_of_ble_eq_true rfl, Nat.le_of_ble_eq_true rfl⟩
theorem EncodeLength.incIdx (ii : IndexReg) (d : Byte) : EncodeLength.Statement (.incIdx ii d) := fun _ => ⟨Nat.le_of_ble_eq_true rfl, Nat.le_of_ble_eq_true rfl⟩
theorem EncodeLength.decIdx (ii : IndexReg) (d : Byte) : EncodeLength.Statement (.decIdx ii d) := fun _ => ⟨Nat.le_of_ble_eq_true rfl, Nat.le_of_ble_eq_true rfl⟩
theorem EncodeLength.daa : EncodeLength.Statement (.daa) := fun _ => ⟨Nat.le_of_ble_eq_true rfl, Nat.le_of_ble_eq_true rfl⟩
theorem EncodeLength.cpl : EncodeLength.Statement (.cpl) := fun _ => ⟨Nat.le_of_ble_eq_true rfl, Nat.le_of_ble_eq_true rfl⟩
theorem EncodeLength.neg (x : BitVec 3) : EncodeLength.Statement (.neg x) := fun _ => ⟨Nat.le_of_ble_eq_true rfl, Nat.le_of_ble_eq_true rfl⟩
theorem EncodeLength.scf : EncodeLength.Statement (.scf) := fun _ => ⟨Nat.le_of_ble_eq_true rfl, Nat.le_of_ble_eq_true rfl⟩
theorem EncodeLength.ccf : EncodeLength.Statement (.ccf) := fun _ => ⟨Nat.le_of_ble_eq_true rfl, Nat.le_of_ble_eq_true rfl⟩
theorem EncodeLength.addHLSs (p : RP) : EncodeLength.Statement (.addHLSs p) := fun _ => ⟨Nat.le_of_ble_eq_true rfl, Nat.le_of_ble_eq_true rfl⟩
theorem EncodeLength.adcHLSs (p : RP) : EncodeLength.Statement (.adcHLSs p) := fun _ => ⟨Nat.le_of_ble_eq_true rfl, Nat.le_of_ble_eq_true rfl⟩
theorem EncodeLength.sbcHLSs (p : RP) : EncodeLength.Statement (.sbcHLSs p) := fun _ => ⟨Nat.le_of_ble_eq_true rfl, Nat.le_of_ble_eq_true rfl⟩
theorem EncodeLength.incSs (p : RP) : EncodeLength.Statement (.incSs p) := fun _ => ⟨Nat.le_of_ble_eq_true rfl, Nat.le_of_ble_eq_true rfl⟩
theorem EncodeLength.decSs (p : RP) : EncodeLength.Statement (.decSs p) := fun _ => ⟨Nat.le_of_ble_eq_true rfl, Nat.le_of_ble_eq_true rfl⟩
theorem EncodeLength.addIiPp (ii : IndexReg) (p : RPI) : EncodeLength.Statement (.addIiPp ii p) := fun _ => ⟨Nat.le_of_ble_eq_true rfl, Nat.le_of_ble_eq_true rfl⟩
theorem EncodeLength.incIi (ii : IndexReg) : EncodeLength.Statement (.incIi ii) := fun _ => ⟨Nat.le_of_ble_eq_true rfl, Nat.le_of_ble_eq_true rfl⟩
theorem EncodeLength.decIi (ii : IndexReg) : EncodeLength.Statement (.decIi ii) := fun _ => ⟨Nat.le_of_ble_eq_true rfl, Nat.le_of_ble_eq_true rfl⟩
theorem EncodeLength.rlca : EncodeLength.Statement (.rlca) := fun _ => ⟨Nat.le_of_ble_eq_true rfl, Nat.le_of_ble_eq_true rfl⟩
theorem EncodeLength.rrca : EncodeLength.Statement (.rrca) := fun _ => ⟨Nat.le_of_ble_eq_true rfl, Nat.le_of_ble_eq_true rfl⟩
theorem EncodeLength.rla : EncodeLength.Statement (.rla) := fun _ => ⟨Nat.le_of_ble_eq_true rfl, Nat.le_of_ble_eq_true rfl⟩
theorem EncodeLength.rra : EncodeLength.Statement (.rra) := fun _ => ⟨Nat.le_of_ble_eq_true rfl, Nat.le_of_ble_eq_true rfl⟩
theorem EncodeLength.rlcR (z : Reg8) : EncodeLength.Statement (.rlcR z) := fun _ => ⟨Nat.le_of_ble_eq_true rfl, Nat.le_of_ble_eq_true rfl⟩
theorem EncodeLength.rlcAtHL : EncodeLength.Statement (.rlcAtHL) := fun _ => ⟨Nat.le_of_ble_eq_true rfl, Nat.le_of_ble_eq_true rfl⟩
theorem EncodeLength.rrcR (z : Reg8) : EncodeLength.Statement (.rrcR z) := fun _ => ⟨Nat.le_of_ble_eq_true rfl, Nat.le_of_ble_eq_true rfl⟩
theorem EncodeLength.rrcAtHL : EncodeLength.Statement (.rrcAtHL) := fun _ => ⟨Nat.le_of_ble_eq_true rfl, Nat.le_of_ble_eq_true rfl⟩
theorem EncodeLength.rlR (z : Reg8) : EncodeLength.Statement (.rlR z) := fun _ => ⟨Nat.le_of_ble_eq_true rfl, Nat.le_of_ble_eq_true rfl⟩
theorem EncodeLength.rlAtHL : EncodeLength.Statement (.rlAtHL) := fun _ => ⟨Nat.le_of_ble_eq_true rfl, Nat.le_of_ble_eq_true rfl⟩
theorem EncodeLength.rrR (z : Reg8) : EncodeLength.Statement (.rrR z) := fun _ => ⟨Nat.le_of_ble_eq_true rfl, Nat.le_of_ble_eq_true rfl⟩
theorem EncodeLength.rrAtHL : EncodeLength.Statement (.rrAtHL) := fun _ => ⟨Nat.le_of_ble_eq_true rfl, Nat.le_of_ble_eq_true rfl⟩
theorem EncodeLength.slaR (z : Reg8) : EncodeLength.Statement (.slaR z) := fun _ => ⟨Nat.le_of_ble_eq_true rfl, Nat.le_of_ble_eq_true rfl⟩
theorem EncodeLength.slaAtHL : EncodeLength.Statement (.slaAtHL) := fun _ => ⟨Nat.le_of_ble_eq_true rfl, Nat.le_of_ble_eq_true rfl⟩
theorem EncodeLength.sraR (z : Reg8) : EncodeLength.Statement (.sraR z) := fun _ => ⟨Nat.le_of_ble_eq_true rfl, Nat.le_of_ble_eq_true rfl⟩
theorem EncodeLength.sraAtHL : EncodeLength.Statement (.sraAtHL) := fun _ => ⟨Nat.le_of_ble_eq_true rfl, Nat.le_of_ble_eq_true rfl⟩
theorem EncodeLength.sllR (z : Reg8) : EncodeLength.Statement (.sllR z) := fun _ => ⟨Nat.le_of_ble_eq_true rfl, Nat.le_of_ble_eq_true rfl⟩
theorem EncodeLength.sllAtHL : EncodeLength.Statement (.sllAtHL) := fun _ => ⟨Nat.le_of_ble_eq_true rfl, Nat.le_of_ble_eq_true rfl⟩
theorem EncodeLength.srlR (z : Reg8) : EncodeLength.Statement (.srlR z) := fun _ => ⟨Nat.le_of_ble_eq_true rfl, Nat.le_of_ble_eq_true rfl⟩
theorem EncodeLength.srlAtHL : EncodeLength.Statement (.srlAtHL) := fun _ => ⟨Nat.le_of_ble_eq_true rfl, Nat.le_of_ble_eq_true rfl⟩
theorem EncodeLength.bitR (b : BitVec 3) (z : Reg8) : EncodeLength.Statement (.bitR b z) := fun _ => ⟨Nat.le_of_ble_eq_true rfl, Nat.le_of_ble_eq_true rfl⟩
theorem EncodeLength.bitAtHL (b : BitVec 3) : EncodeLength.Statement (.bitAtHL b) := fun _ => ⟨Nat.le_of_ble_eq_true rfl, Nat.le_of_ble_eq_true rfl⟩
theorem EncodeLength.setR (b : BitVec 3) (z : Reg8) : EncodeLength.Statement (.setR b z) := fun _ => ⟨Nat.le_of_ble_eq_true rfl, Nat.le_of_ble_eq_true rfl⟩
theorem EncodeLength.setAtHL (b : BitVec 3) : EncodeLength.Statement (.setAtHL b) := fun _ => ⟨Nat.le_of_ble_eq_true rfl, Nat.le_of_ble_eq_true rfl⟩
theorem EncodeLength.resR (b : BitVec 3) (z : Reg8) : EncodeLength.Statement (.resR b z) := fun _ => ⟨Nat.le_of_ble_eq_true rfl, Nat.le_of_ble_eq_true rfl⟩
theorem EncodeLength.resAtHL (b : BitVec 3) : EncodeLength.Statement (.resAtHL b) := fun _ => ⟨Nat.le_of_ble_eq_true rfl, Nat.le_of_ble_eq_true rfl⟩
theorem EncodeLength.rld : EncodeLength.Statement (.rld) := fun _ => ⟨Nat.le_of_ble_eq_true rfl, Nat.le_of_ble_eq_true rfl⟩
theorem EncodeLength.rrd : EncodeLength.Statement (.rrd) := fun _ => ⟨Nat.le_of_ble_eq_true rfl, Nat.le_of_ble_eq_true rfl⟩
theorem EncodeLength.rlcIdx (ii : IndexReg) (d : Byte) : EncodeLength.Statement (.rlcIdx ii d) := fun _ => ⟨Nat.le_of_ble_eq_true rfl, Nat.le_of_ble_eq_true rfl⟩
theorem EncodeLength.rlcIdxR (ii : IndexReg) (d : Byte) (z : Reg8) : EncodeLength.Statement (.rlcIdxR ii d z) := fun _ => ⟨Nat.le_of_ble_eq_true rfl, Nat.le_of_ble_eq_true rfl⟩
theorem EncodeLength.rrcIdx (ii : IndexReg) (d : Byte) : EncodeLength.Statement (.rrcIdx ii d) := fun _ => ⟨Nat.le_of_ble_eq_true rfl, Nat.le_of_ble_eq_true rfl⟩
theorem EncodeLength.rrcIdxR (ii : IndexReg) (d : Byte) (z : Reg8) : EncodeLength.Statement (.rrcIdxR ii d z) := fun _ => ⟨Nat.le_of_ble_eq_true rfl, Nat.le_of_ble_eq_true rfl⟩
theorem EncodeLength.rlIdx (ii : IndexReg) (d : Byte) : EncodeLength.Statement (.rlIdx ii d) := fun _ => ⟨Nat.le_of_ble_eq_true rfl, Nat.le_of_ble_eq_true rfl⟩
theorem EncodeLength.rlIdxR (ii : IndexReg) (d : Byte) (z : Reg8) : EncodeLength.Statement (.rlIdxR ii d z) := fun _ => ⟨Nat.le_of_ble_eq_true rfl, Nat.le_of_ble_eq_true rfl⟩
theorem EncodeLength.rrIdx (ii : IndexReg) (d : Byte) : EncodeLength.Statement (.rrIdx ii d) := fun _ => ⟨Nat.le_of_ble_eq_true rfl, Nat.le_of_ble_eq_true rfl⟩
theorem EncodeLength.rrIdxR (ii : IndexReg) (d : Byte) (z : Reg8) : EncodeLength.Statement (.rrIdxR ii d z) := fun _ => ⟨Nat.le_of_ble_eq_true rfl, Nat.le_of_ble_eq_true rfl⟩
theorem EncodeLength.slaIdx (ii : IndexReg) (d : Byte) : EncodeLength.Statement (.slaIdx ii d) := fun _ => ⟨Nat.le_of_ble_eq_true rfl, Nat.le_of_ble_eq_true rfl⟩
theorem EncodeLength.slaIdxR (ii : IndexReg) (d : Byte) (z : Reg8) : EncodeLength.Statement (.slaIdxR ii d z) := fun _ => ⟨Nat.le_of_ble_eq_true rfl, Nat.le_of_ble_eq_true rfl⟩
theorem EncodeLength.sraIdx (ii : IndexReg) (d : Byte) : EncodeLength.Statement (.sraIdx ii d) := fun _ => ⟨Nat.le_of_ble_eq_true rfl, Nat.le_of_ble_eq_true rfl⟩
theorem EncodeLength.sraIdxR (ii : IndexReg) (d : Byte) (z : Reg8) : EncodeLength.Statement (.sraIdxR ii d z) := fun _ => ⟨Nat.le_of_ble_eq_true rfl, Nat.le_of_ble_eq_true rfl⟩
theorem EncodeLength.sllIdx (ii : IndexReg) (d : Byte) : EncodeLength.Statement (.sllIdx ii d) := fun _ => ⟨Nat.le_of_ble_eq_true rfl, Nat.le_of_ble_eq_true rfl⟩
theorem EncodeLength.sllIdxR (ii : IndexReg) (d : Byte) (z : Reg8) : EncodeLength.Statement (.sllIdxR ii d z) := fun _ => ⟨Nat.le_of_ble_eq_true rfl, Nat.le_of_ble_eq_true rfl⟩
theorem EncodeLength.srlIdx (ii : IndexReg) (d : Byte) : EncodeLength.Statement (.srlIdx ii d) := fun _ => ⟨Nat.le_of_ble_eq_true rfl, Nat.le_of_ble_eq_true rfl⟩
theorem EncodeLength.srlIdxR (ii : IndexReg) (d : Byte) (z : Reg8) : EncodeLength.Statement (.srlIdxR ii d z) := fun _ => ⟨Nat.le_of_ble_eq_true rfl, Nat.le_of_ble_eq_true rfl⟩
theorem EncodeLength.bitIdx (ii : IndexReg) (d : Byte) (b x : BitVec 3) : EncodeLength.Statement (.bitIdx ii d b x) := fun _ => ⟨Nat.le_of_ble_eq_true rfl, Nat.le_of_ble_eq_true rfl⟩
theorem EncodeLength.setIdx (ii : IndexReg) (d : Byte) (b : BitVec 3) : EncodeLength.Statement (.setIdx ii d b) := fun _ => ⟨Nat.le_of_ble_eq_true rfl, Nat.le_of_ble_eq_true rfl⟩
theorem EncodeLength.setIdxR (ii : IndexReg) (d : Byte) (b : BitVec 3) (z : Reg8) : EncodeLength.Statement (.setIdxR ii d b z) := fun _ => ⟨Nat.le_of_ble_eq_true rfl, Nat.le_of_ble_eq_true rfl⟩
theorem EncodeLength.resIdx (ii : IndexReg) (d : Byte) (b : BitVec 3) : EncodeLength.Statement (.resIdx ii d b) := fun _ => ⟨Nat.le_of_ble_eq_true rfl, Nat.le_of_ble_eq_true rfl⟩
theorem EncodeLength.resIdxR (ii : IndexReg) (d : Byte) (b : BitVec 3) (z : Reg8) : EncodeLength.Statement (.resIdxR ii d b z) := fun _ => ⟨Nat.le_of_ble_eq_true rfl, Nat.le_of_ble_eq_true rfl⟩
theorem EncodeLength.jpNn (nn : Word) : EncodeLength.Statement (.jpNn nn) := fun _ => ⟨Nat.le_of_ble_eq_true rfl, Nat.le_of_ble_eq_true rfl⟩
theorem EncodeLength.jpCcNn (cc : Cond) (nn : Word) : EncodeLength.Statement (.jpCcNn cc nn) := fun _ => ⟨Nat.le_of_ble_eq_true rfl, Nat.le_of_ble_eq_true rfl⟩
theorem EncodeLength.jrE (e : Byte) : EncodeLength.Statement (.jrE e) := fun _ => ⟨Nat.le_of_ble_eq_true rfl, Nat.le_of_ble_eq_true rfl⟩
theorem EncodeLength.jrCcE (cc : Cond) (e : Byte) : EncodeLength.Statement (.jrCcE cc e) := fun _ => ⟨Nat.le_of_ble_eq_true rfl, Nat.le_of_ble_eq_true rfl⟩
theorem EncodeLength.jpHL : EncodeLength.Statement (.jpHL) := fun _ => ⟨Nat.le_of_ble_eq_true rfl, Nat.le_of_ble_eq_true rfl⟩
theorem EncodeLength.jpIi (ii : IndexReg) : EncodeLength.Statement (.jpIi ii) := fun _ => ⟨Nat.le_of_ble_eq_true rfl, Nat.le_of_ble_eq_true rfl⟩
theorem EncodeLength.djnzE (e : Byte) : EncodeLength.Statement (.djnzE e) := fun _ => ⟨Nat.le_of_ble_eq_true rfl, Nat.le_of_ble_eq_true rfl⟩
theorem EncodeLength.callNn (nn : Word) : EncodeLength.Statement (.callNn nn) := fun _ => ⟨Nat.le_of_ble_eq_true rfl, Nat.le_of_ble_eq_true rfl⟩
theorem EncodeLength.callCcNn (cc : Cond) (nn : Word) : EncodeLength.Statement (.callCcNn cc nn) := fun _ => ⟨Nat.le_of_ble_eq_true rfl, Nat.le_of_ble_eq_true rfl⟩
theorem EncodeLength.ret : EncodeLength.Statement (.ret) := fun _ => ⟨Nat.le_of_ble_eq_true rfl, Nat.le_of_ble_eq_true rfl⟩
theorem EncodeLength.retCc (cc : Cond) : EncodeLength.Statement (.retCc cc) := fun _ => ⟨Nat.le_of_ble_eq_true rfl, Nat.le_of_ble_eq_true rfl⟩
theorem EncodeLength.reti : EncodeLength.Statement (.reti) := fun _ => ⟨Nat.le_of_ble_eq_true rfl, Nat.le_of_ble_eq_true rfl⟩
theorem EncodeLength.retn (x : BitVec 3) : EncodeLength.Statement (.retn x) := fun _ => ⟨Nat.le_of_ble_eq_true rfl, Nat.le_of_ble_eq_true rfl⟩
theorem EncodeLength.rstP (t : BitVec 3) : EncodeLength.Statement (.rstP t) := fun _ => ⟨Nat.le_of_ble_eq_true rfl, Nat.le_of_ble_eq_true rfl⟩
theorem EncodeLength.ldi : EncodeLength.Statement (.ldi) := fun _ => ⟨Nat.le_of_ble_eq_true rfl, Nat.le_of_ble_eq_true rfl⟩
theorem EncodeLength.ldir : EncodeLength.Statement (.ldir) := fun _ => ⟨Nat.le_of_ble_eq_true rfl, Nat.le_of_ble_eq_true rfl⟩
theorem EncodeLength.ldd : EncodeLength.Statement (.ldd) := fun _ => ⟨Nat.le_of_ble_eq_true rfl, Nat.le_of_ble_eq_true rfl⟩
theorem EncodeLength.lddr : EncodeLength.Statement (.lddr) := fun _ => ⟨Nat.le_of_ble_eq_true rfl, Nat.le_of_ble_eq_true rfl⟩
theorem EncodeLength.cpi : EncodeLength.Statement (.cpi) := fun _ => ⟨Nat.le_of_ble_eq_true rfl, Nat.le_of_ble_eq_true rfl⟩
theorem EncodeLength.cpir : EncodeLength.Statement (.cpir) := fun _ => ⟨Nat.le_of_ble_eq_true rfl, Nat.le_of_ble_eq_true rfl⟩
theorem EncodeLength.cpd : EncodeLength.Statement (.cpd) := fun _ => ⟨Nat.le_of_ble_eq_true rfl, Nat.le_of_ble_eq_true rfl⟩
theorem EncodeLength.cpdr : EncodeLength.Statement (.cpdr) := fun _ => ⟨Nat.le_of_ble_eq_true rfl, Nat.le_of_ble_eq_true rfl⟩
theorem EncodeLength.inAN (n : Byte) : EncodeLength.Statement (.inAN n) := fun _ => ⟨Nat.le_of_ble_eq_true rfl, Nat.le_of_ble_eq_true rfl⟩
theorem EncodeLength.inRC (y : Reg8) : EncodeLength.Statement (.inRC y) := fun _ => ⟨Nat.le_of_ble_eq_true rfl, Nat.le_of_ble_eq_true rfl⟩
theorem EncodeLength.inC : EncodeLength.Statement (.inC) := fun _ => ⟨Nat.le_of_ble_eq_true rfl, Nat.le_of_ble_eq_true rfl⟩
theorem EncodeLength.outNA (n : Byte) : EncodeLength.Statement (.outNA n) := fun _ => ⟨Nat.le_of_ble_eq_true rfl, Nat.le_of_ble_eq_true rfl⟩
theorem EncodeLength.outCR (y : Reg8) : EncodeLength.Statement (.outCR y) := fun _ => ⟨Nat.le_of_ble_eq_true rfl, Nat.le_of_ble_eq_true rfl⟩
theorem EncodeLength.outC0 : EncodeLength.Statement (.outC0) := fun _ => ⟨Nat.le_of_ble_eq_true rfl, Nat.le_of_ble_eq_true rfl⟩
theorem EncodeLength.ini : EncodeLength.Statement (.ini) := fun _ => ⟨Nat.le_of_ble_eq_true rfl, Nat.le_of_ble_eq_true rfl⟩
theorem EncodeLength.inir : EncodeLength.Statement (.inir) := fun _ => ⟨Nat.le_of_ble_eq_true rfl, Nat.le_of_ble_eq_true rfl⟩
theorem EncodeLength.ind : EncodeLength.Statement (.ind) := fun _ => ⟨Nat.le_of_ble_eq_true rfl, Nat.le_of_ble_eq_true rfl⟩
theorem EncodeLength.indr : EncodeLength.Statement (.indr) := fun _ => ⟨Nat.le_of_ble_eq_true rfl, Nat.le_of_ble_eq_true rfl⟩
theorem EncodeLength.outi : EncodeLength.Statement (.outi) := fun _ => ⟨Nat.le_of_ble_eq_true rfl, Nat.le_of_ble_eq_true rfl⟩
theorem EncodeLength.otir : EncodeLength.Statement (.otir) := fun _ => ⟨Nat.le_of_ble_eq_true rfl, Nat.le_of_ble_eq_true rfl⟩
theorem EncodeLength.outd : EncodeLength.Statement (.outd) := fun _ => ⟨Nat.le_of_ble_eq_true rfl, Nat.le_of_ble_eq_true rfl⟩
theorem EncodeLength.otdr : EncodeLength.Statement (.otdr) := fun _ => ⟨Nat.le_of_ble_eq_true rfl, Nat.le_of_ble_eq_true rfl⟩
theorem EncodeLength.nop : EncodeLength.Statement (.nop) := fun _ => ⟨Nat.le_of_ble_eq_true rfl, Nat.le_of_ble_eq_true rfl⟩
theorem EncodeLength.halt : EncodeLength.Statement (.halt) := fun _ => ⟨Nat.le_of_ble_eq_true rfl, Nat.le_of_ble_eq_true rfl⟩
theorem EncodeLength.di : EncodeLength.Statement (.di) := fun _ => ⟨Nat.le_of_ble_eq_true rfl, Nat.le_of_ble_eq_true rfl⟩
theorem EncodeLength.ei : EncodeLength.Statement (.ei) := fun _ => ⟨Nat.le_of_ble_eq_true rfl, Nat.le_of_ble_eq_true rfl⟩
theorem EncodeLength.im0 (x5 x3 : Bool) : EncodeLength.Statement (.im0 x5 x3) := fun _ => ⟨Nat.le_of_ble_eq_true rfl, Nat.le_of_ble_eq_true rfl⟩
theorem EncodeLength.im1 (x5 : Bool) : EncodeLength.Statement (.im1 x5) := fun _ => ⟨Nat.le_of_ble_eq_true rfl, Nat.le_of_ble_eq_true rfl⟩
theorem EncodeLength.im2 (x5 : Bool) : EncodeLength.Statement (.im2 x5) := fun _ => ⟨Nat.le_of_ble_eq_true rfl, Nat.le_of_ble_eq_true rfl⟩
theorem EncodeLength.prefixCB : EncodeLength.Statement (.prefixCB) := fun _ => ⟨Nat.le_of_ble_eq_true rfl, Nat.le_of_ble_eq_true rfl⟩
theorem EncodeLength.prefixED : EncodeLength.Statement (.prefixED) := fun _ => ⟨Nat.le_of_ble_eq_true rfl, Nat.le_of_ble_eq_true rfl⟩
theorem EncodeLength.prefixXY (ii : IndexReg) : EncodeLength.Statement (.prefixXY ii) := fun _ => ⟨Nat.le_of_ble_eq_true rfl, Nat.le_of_ble_eq_true rfl⟩
theorem EncodeLength.edNop (x : Byte) : EncodeLength.Statement (.edNop x) := fun _ => ⟨Nat.le_of_ble_eq_true rfl, Nat.le_of_ble_eq_true rfl⟩
/-- A BASE instruction behind an ignored prefix has one to three bytes. -/
theorem EncodeLength.fallback_base (base : Instr) (h : base.isFallbackBase = true) :
    1 ≤ (encodeRow base).length ∧ (encodeRow base).length ≤ 3 := by
  cases base <;> first
    | exact Bool.noConfusion h
    | exact ⟨Nat.le_of_ble_eq_true rfl, Nat.le_of_ble_eq_true rfl⟩

theorem EncodeLength.xyFallback (ii : IndexReg) (base : Instr) : EncodeLength.Statement (.xyFallback ii base) := by
  intro h
  have hb := EncodeLength.fallback_base base h
  change 1 ≤ (encodeRow base).length + 1 ∧ (encodeRow base).length + 1 ≤ 4
  omega

end Sys2Proof.Laws
end

