-- ==== Sys2Proof/Laws/Step.lean ====
section
/-!
SUPPORT. What one step can do, said once: which branch of R162 a next state comes from, and the induction over a chain
of dropped prefixes.
-/

namespace Sys2Proof.Machine

theorem guardBus_next {n : Nat} {r : Result} {s : State} :
    guardBus n r = .next s ↔ r = .next s ∧ s.bus.failed = false ∧ s.bus.madeFailing n = false := by
  cases r with
  | next t =>
    simp only [guardBus]
    split
    · rename_i h
      constructor
      · intro e; cases e
      · rintro ⟨e, h1, h2⟩; cases e; rw [h1, h2] at h; cases h
    · rename_i h
      simp only [Bool.not_eq_true, Bool.or_eq_false_iff] at h
      constructor
      · intro e; cases e; exact ⟨rfl, h⟩
      · rintro ⟨e, -⟩; exact e
  | fault x => simp [guardBus]
  | refused x => simp [guardBus]

@[simp] theorem guardBus_refused {n : Nat} {x : Refusal} : guardBus n (.refused x) = .refused x := rfl

@[simp] theorem guardBus_fault {n : Nat} {x : Fault} : guardBus n (.fault x) = .fault x := rfl

theorem Bus.madeFailing_of_none {n : Nat} {b : Bus} (h : b.failsAt = none) : b.madeFailing n = false := by
  simp [Bus.madeFailing, h]

/-- An item that goes on: its operand bytes are fetched, it is executed, no access has failed. -/
theorem runItem_next {n : Nat} {opcode : List Byte} {s s' : State} :
    runItem n opcode s = .next s' ↔
      exec (s.fetchOperands opcode).1 (s.fetchOperands opcode).2 = .next s' ∧ s'.bus.failed = false ∧
        s'.bus.madeFailing n = false :=
  guardBus_next

/-- One round of `runItems` that goes on: a dropped prefix and the rest of the chain, an item with a lead-in byte, or
an item without one. -/
theorem runItems_next {n left : Nat} {b : Byte} {s s' : State} (h : runItems n (left + 1) b s = .next s') :
    (∃ ii s1, IndexReg.ofByte b = some ii ∧ left ≠ 0 ∧ dropsPrefix s.fetchM1.1 = true ∧
      exec (.prefixXY ii) s.fetchM1.2 = .next s1 ∧ runItems n left s.fetchM1.1 s1 = .next s') ∨
    (isLeadByte b = true ∧ runItem n [b, s.fetchM1.1] s.fetchM1.2 = .next s') ∨
    (isLeadByte b = false ∧ runItem n [b] s = .next s') := by
  rw [runItems] at h
  split at h
  · rename_i ii hii
    split at h
    · split at h <;> cases h
    · simp only at h
      split at h
      · split at h
        · exact .inl ⟨ii, _, hii, ‹_›, ‹_›, ‹_›, h⟩
        · cases h
        · cases h
      · exact .inr (.inl ⟨by simp [isLeadByte, isXYByte, hii], h⟩)
  · split at h
    · exact .inr (.inl ⟨‹_›, h⟩)
    · exact .inr (.inr ⟨Bool.eq_false_of_not_eq_true ‹_›, h⟩)

/-- A property that every M1 fetch and every executed item keeps is kept by the whole chain. -/
theorem runItems_induct {P : State → Prop} {n : Nat} (hfetch : ∀ s, P s → P s.fetchM1.2)
    (hdrop : ∀ ii s t, P s → exec (.prefixXY ii) s = .next t → P t)
    (hitem : ∀ opcode s t, P s → runItem n opcode s = .next t → P t)
    {fuel : Nat} {b : Byte} {s s' : State} (hs : P s) (h : runItems n fuel b s = .next s') : P s' := by
  induction fuel generalizing b s with
  | zero => cases h
  | succ left ih =>
    obtain ⟨ii, s1, -, -, -, hx, hrec⟩ | ⟨-, hx⟩ | ⟨-, hx⟩ := runItems_next h
    · exact ih (hdrop ii _ s1 (hfetch s hs) hx) hrec
    · exact hitem _ _ s' (hfetch s hs) hx
    · exact hitem _ _ s' hs hx

/-- The four branches of a step that goes on (R162); the bus has not failed before. -/
theorem step_next {s s' : State} (h : step s = .next s') :
    let s0 := { s with tStates := 0 }
    s.bus.failed = false ∧
    ((s.nmiPending = true ∧ s' = s0.acceptNmi) ∨
    (∃ d, s.nmiPending = false ∧ s.intPending = some d ∧ s.intAcceptable = true ∧ s0.acceptInt d = .next s') ∨
    (s.nmiPending = false ∧ s.halted = true ∧ s' = ({ s0 with eiDelay := false }).haltedStep) ∨
    (s.nmiPending = false ∧ s.halted = false ∧
      State.runInstruction { s0 with eiDelay := false } = .next s')) := by
  intro s0
  have hproceed : s.nmiPending = false → s0.proceed = .next s' →
      (s.nmiPending = false ∧ s.halted = true ∧ s' = ({ s0 with eiDelay := false }).haltedStep) ∨
      (s.nmiPending = false ∧ s.halted = false ∧ State.runInstruction { s0 with eiDelay := false } = .next s') := by
    intro hn hp
    simp only [State.proceed] at hp
    split at hp
    · injection hp with hp
      exact .inl ⟨hn, ‹_›, hp.symm⟩
    · exact .inr ⟨hn, Bool.eq_false_of_not_eq_true ‹_›, hp⟩
  change stepBody s = .next s' at h
  simp only [stepBody] at h
  split at h
  · cases h
  · refine ⟨Bool.eq_false_of_not_eq_true ‹_›, ?_⟩
    split at h
    · rename_i hn
      rw [guardBus_next] at h
      injection h.1 with h
      exact .inl ⟨hn, h.symm⟩
    · rename_i hn
      have hn : s.nmiPending = false := by simpa using hn
      split at h
      · rename_i d hd
        split at h
        · rename_i ha
          rw [guardBus_next] at h
          exact .inr (.inl ⟨d, hn, hd, ha, h.1⟩)
        · exact .inr (.inr (hproceed hn h))
      · exact .inr (.inr (hproceed hn h))

end Sys2Proof.Machine
end

