-- ==== Sys2Proof/Tests/Slice0.lean ====
section
/-!
SUPPORT. The model's own tests. Expected values are the spec's: the encodings of 30_encoding.md, the worked examples of
the instruction rules, and the scenarios and vectors of 95_test_vectors.md (none is the model's own answer). The
witnesses of the statements' hypotheses stand last.
-/

namespace Sys2Proof.Tests

open Sys2Proof Sys2Proof.Machine Sys2Proof.Claims

/-- The baseline state of the spec's examples (00_scope.md R9). -/
def base : State :=
  { a := 0, f := 0, b := 0, c := 0, d := 0, e := 0, h := 0, l := 0
    a' := 0, f' := 0, b' := 0, c' := 0, d' := 0, e' := 0, h' := 0, l' := 0
    ix := 0, iy := 0, sp := 0xFF00, pc := 0x0100, i := 0, r := 0
    iff1 := false, iff2 := false, eiDelay := false, im := .im0, halted := false
    nmiPending := false, intPending := none, bus := Bus.flat, resetRegs := Config.resetRegs
    freeCount := 0, tStates := 0 }

/-- A state with some bytes of memory set. -/
def withBytes (s : State) (bytes : List (Word × Byte)) : State :=
  { s with bus := { s.bus with mem := bytes.foldl (fun m p => Memory.write m p.1 p.2) s.bus.mem } }

/-- A state with an instruction at PC. -/
def withCode (s : State) (code : List Byte) : State :=
  { s with bus := { s.bus with mem := Memory.place s.bus.mem s.pc code } }

/-- A state with port responses that wait. -/
def withPorts (s : State) (bytes : List Byte) : State := { s with bus := { s.bus with portIn := bytes } }

/-- A state with regions of memory and of ports. -/
def withMaps (s : State) (mem : List (Region MemAnswer)) (ports : List (Region PortAnswer)) : State :=
  { s with bus := { s.bus with memMap := mem, portMap := ports } }

/-- A state whose n-th bus access fails. -/
def failingAt (s : State) (n : Nat) : State := { s with bus := { s.bus with failsAt := some n } }

/-- The answer is a next state with a property. -/
def nextHas (r : Result) (p : State → Bool) : Bool :=
  match r with
  | .next t => p t
  | .fault _ => false
  | .refused _ => false

/-- One step from a state with these bytes in memory and this instruction at PC has a property. -/
def gives (s : State) (bytes : List (Word × Byte)) (code : List Byte) (p : State → Bool) : Bool :=
  nextHas (step (withCode (withBytes s bytes) code)) p

/-- The port accesses on record, in order. -/
def ports (s : State) : List BusEvent :=
  (s.bus.trace.filter fun e => match e with | .portRead _ _ => true | .portWrite _ _ => true | _ => false).reverse

/-- These bytes are exactly this instruction, and its encoding is these bytes. -/
def reads (bytes : List Byte) (i : Instr) : Bool :=
  encode i == bytes && match decode bytes with
    | .ok (j, []) => i == j
    | .ok (_, _ :: _) => false
    | .error _ => false

/-! ## WellFormed refuses one ill-formed term per check -/

theorem test_wf_refuses_jr_with_a_long_condition : (Instr.jrCcE .po 0).WellFormed = false := by decide

theorem test_wf_refuses_retn_with_the_bits_of_reti : (Instr.retn 1).WellFormed = false := by decide

theorem test_wf_refuses_ed_nop_with_a_taken_byte : (Instr.edNop 0x47).WellFormed = false := by decide

theorem test_wf_refuses_fallback_of_a_base_row_with_an_index_form :
    (Instr.xyFallback .ix (.ldRR .h .l)).WellFormed = false ∧
    (Instr.xyFallback .ix (.ldDdNn .hl 0)).WellFormed = false ∧
    (Instr.xyFallback .iy (.xyFallback .ix .nop)).WellFormed = false := by decide

theorem test_decode_rejects_by_name :
    (match decode [] with | .error .noBytes => true | _ => false) = true ∧
    (match decode [0xC3, 0x00] with | .error (.truncated 3) => true | _ => false) = true ∧
    (match decode [0xDD, 0xCB, 0x01] with | .error (.truncated 4) => true | _ => false) = true := by decide

/-! ## Decoding -/

/-- Words of R300 to R319, written out from their encodings (30_encoding.md R103, R120). -/
theorem test_decode_load8 :
    [
      reads [0b01000111] (.ldRR .b .a),
      reads [0b00001110, 0b10011010] (.ldRN .c 0x9A),
      reads [0b01010110] (.ldRAtHL .d),
      reads [0b01110101] (.ldAtHLR .l),
      reads [0b00110110, 0b10011010] (.ldAtHLN 0x9A),
      reads [0b00001010] (.ldAAtBC),
      reads [0b00011010] (.ldAAtDE),
      reads [0b00111010, 0b00110100, 0b00010010] (.ldAAtNn 0x1234),
      reads [0b00000010] (.ldAtBCA),
      reads [0b00010010] (.ldAtDEA),
      reads [0b00110010, 0b00110100, 0b00010010] (.ldAtNnA 0x1234),
      reads [0b11101101, 0b01000111] (.ldIA),
      reads [0b11101101, 0b01001111] (.ldRA),
      reads [0b11101101, 0b01010111] (.ldAI),
      reads [0b11101101, 0b01011111] (.ldAR),
      reads [0b11011101, 0b01011110, 0b11111110] (.ldRIdx .ix .e 0xFE),
      reads [0b11111101, 0b01110100, 0b11111110] (.ldIdxR .iy .h 0xFE),
      reads [0b11011101, 0b00110110, 0b11111110, 0b10011010] (.ldIdxN .ix 0xFE 0x9A),
      reads [0b11111101, 0b01100011] (.ldPP .iy .iiH .e),
      reads [0b11011101, 0b00101110, 0b10011010] (.ldPN .ix .iiL 0x9A)
    ].all id = true := by decide

/-- Words of R320 to R338, written out from their encodings (30_encoding.md R103, R120). -/
theorem test_decode_load16_stack_exchange :
    [
      reads [0b00010001, 0b00110100, 0b00010010] (.ldDdNn .de 0x1234),
      reads [0b00101010, 0b00110100, 0b00010010] (.ldHLAtNn 0x1234),
      reads [0b00100010, 0b00110100, 0b00010010] (.ldAtNnHL 0x1234),
      reads [0b11101101, 0b01111011, 0b00110100, 0b00010010] (.ldDdAtNn .sp 0x1234),
      reads [0b11101101, 0b01000011, 0b00110100, 0b00010010] (.ldAtNnDd .bc 0x1234),
      reads [0b11111001] (.ldSPHL),
      reads [0b11010101] (.pushQq .de),
      reads [0b11110001] (.popQq .af),
      reads [0b11101011] (.exDEHL),
      reads [0b00001000] (.exAFAF),
      reads [0b11011001] (.exx),
      reads [0b11100011] (.exAtSPHL),
      reads [0b11111101, 0b00100001, 0b00110100, 0b00010010] (.ldIiNn .iy 0x1234),
      reads [0b11011101, 0b00101010, 0b00110100, 0b00010010] (.ldIiAtNn .ix 0x1234),
      reads [0b11111101, 0b00100010, 0b00110100, 0b00010010] (.ldAtNnIi .iy 0x1234),
      reads [0b11011101, 0b11111001] (.ldSPIi .ix),
      reads [0b11111101, 0b11100101] (.pushIi .iy),
      reads [0b11011101, 0b11100001] (.popIi .ix),
      reads [0b11111101, 0b11100011] (.exAtSPIi .iy)
    ].all id = true := by decide

/-- Words of R347 to R366, written out from their encodings (30_encoding.md R103, R120). -/
theorem test_decode_alu8_add_subtract :
    [
      reads [0b10000010] (.addR .d),
      reads [0b11000110, 0b10011010] (.addN 0x9A),
      reads [0b10000110] (.addAtHL),
      reads [0b11011101, 0b10000110, 0b11111110] (.addIdx .ix 0xFE),
      reads [0b11111101, 0b10000001] (.addP .iy .c),
      reads [0b10001000] (.adcR .b),
      reads [0b11001110, 0b10011010] (.adcN 0x9A),
      reads [0b10001110] (.adcAtHL),
      reads [0b11011101, 0b10001110, 0b11111110] (.adcIdx .ix 0xFE),
      reads [0b11111101, 0b10001111] (.adcP .iy .a),
      reads [0b10010101] (.subR .l),
      reads [0b11010110, 0b10011010] (.subN 0x9A),
      reads [0b10010110] (.subAtHL),
      reads [0b11011101, 0b10010110, 0b11111110] (.subIdx .ix 0xFE),
      reads [0b11111101, 0b10010100] (.subP .iy .iiH),
      reads [0b10011011] (.sbcR .e),
      reads [0b11011110, 0b10011010] (.sbcN 0x9A),
      reads [0b10011110] (.sbcAtHL),
      reads [0b11011101, 0b10011110, 0b11111110] (.sbcIdx .ix 0xFE),
      reads [0b11111101, 0b10011010] (.sbcP .iy .d)
    ].all id = true := by decide

/-- Words of R367 to R386, written out from their encodings (30_encoding.md R103, R120). -/
theorem test_decode_alu8_logic_compare :
    [
      reads [0b10100001] (.andR .c),
      reads [0b11100110, 0b10011010] (.andN 0x9A),
      reads [0b10100110] (.andAtHL),
      reads [0b11011101, 0b10100110, 0b11111110] (.andIdx .ix 0xFE),
      reads [0b11111101, 0b10100000] (.andP .iy .b),
      reads [0b10101111] (.xorR .a),
      reads [0b11101110, 0b10011010] (.xorN 0x9A),
      reads [0b10101110] (.xorAtHL),
      reads [0b11011101, 0b10101110, 0b11111110] (.xorIdx .ix 0xFE),
      reads [0b11111101, 0b10101101] (.xorP .iy .iiL),
      reads [0b10110100] (.orR .h),
      reads [0b11110110, 0b10011010] (.orN 0x9A),
      reads [0b10110110] (.orAtHL),
      reads [0b11011101, 0b10110110, 0b11111110] (.orIdx .ix 0xFE),
      reads [0b11111101, 0b10110011] (.orP .iy .e),
      reads [0b10111010] (.cpR .d),
      reads [0b11111110, 0b10011010] (.cpN 0x9A),
      reads [0b10111110] (.cpAtHL),
      reads [0b11011101, 0b10111110, 0b11111110] (.cpIdx .ix 0xFE),
      reads [0b11111101, 0b10111001] (.cpP .iy .c)
    ].all id = true := by decide

/-- Words of R387 to R399, written out from their encodings (30_encoding.md R103, R120). -/
theorem test_decode_alu8_other :
    [
      reads [0b00111100] (.incR .a),
      reads [0b00110100] (.incAtHL),
      reads [0b00000101] (.decR .b),
      reads [0b00110101] (.decAtHL),
      reads [0b11011101, 0b00001100] (.incP .ix .c),
      reads [0b11111101, 0b00010101] (.decP .iy .d),
      reads [0b11011101, 0b00110100, 0b11111110] (.incIdx .ix 0xFE),
      reads [0b11111101, 0b00110101, 0b11111110] (.decIdx .iy 0xFE),
      reads [0b00100111] (.daa),
      reads [0b00101111] (.cpl),
      reads [0b11101101, 0b01110100] (.neg 6),
      reads [0b00110111] (.scf),
      reads [0b00111111] (.ccf)
    ].all id = true := by decide

/-- Words of R402 to R409, written out from their encodings (30_encoding.md R103, R120). -/
theorem test_decode_alu16 :
    [
      reads [0b00001001] (.addHLSs .bc),
      reads [0b11101101, 0b01011010] (.adcHLSs .de),
      reads [0b11101101, 0b01110010] (.sbcHLSs .sp),
      reads [0b00000011] (.incSs .bc),
      reads [0b00011011] (.decSs .de),
      reads [0b11011101, 0b00111001] (.addIiPp .ix .sp),
      reads [0b11111101, 0b00100011] (.incIi .iy),
      reads [0b11011101, 0b00101011] (.decIi .ix)
    ].all id = true := by decide

/-- Words of R412 to R431, written out from their encodings (30_encoding.md R103, R120). -/
theorem test_decode_rotate_shift :
    [
      reads [0b00000111] (.rlca),
      reads [0b00001111] (.rrca),
      reads [0b00010111] (.rla),
      reads [0b00011111] (.rra),
      reads [0b11001011, 0b00000000] (.rlcR .b),
      reads [0b11001011, 0b00000110] (.rlcAtHL),
      reads [0b11001011, 0b00001111] (.rrcR .a),
      reads [0b11001011, 0b00001110] (.rrcAtHL),
      reads [0b11001011, 0b00010101] (.rlR .l),
      reads [0b11001011, 0b00010110] (.rlAtHL),
      reads [0b11001011, 0b00011100] (.rrR .h),
      reads [0b11001011, 0b00011110] (.rrAtHL),
      reads [0b11001011, 0b00100011] (.slaR .e),
      reads [0b11001011, 0b00100110] (.slaAtHL),
      reads [0b11001011, 0b00101010] (.sraR .d),
      reads [0b11001011, 0b00101110] (.sraAtHL),
      reads [0b11001011, 0b00110001] (.sllR .c),
      reads [0b11001011, 0b00110110] (.sllAtHL),
      reads [0b11001011, 0b00111000] (.srlR .b),
      reads [0b11001011, 0b00111110] (.srlAtHL)
    ].all id = true := by decide

/-- Words of R432 to R439, written out from their encodings (30_encoding.md R103, R120). -/
theorem test_decode_bit_and_digit :
    [
      reads [0b11001011, 0b01101111] (.bitR 5 .a),
      reads [0b11001011, 0b01010110] (.bitAtHL 2),
      reads [0b11001011, 0b11111101] (.setR 7 .l),
      reads [0b11001011, 0b11101110] (.setAtHL 5),
      reads [0b11001011, 0b10010100] (.resR 2 .h),
      reads [0b11001011, 0b10111110] (.resAtHL 7),
      reads [0b11101101, 0b01101111] (.rld),
      reads [0b11101101, 0b01100111] (.rrd)
    ].all id = true := by decide

/-- Words of R440 to R455, written out from their encodings (30_encoding.md R103, R120). -/
theorem test_decode_indexed_rotate :
    [
      reads [0b11111101, 0b11001011, 0b11111110, 0b00000110] (.rlcIdx .iy 0xFE),
      reads [0b11011101, 0b11001011, 0b11111110, 0b00000011] (.rlcIdxR .ix 0xFE .e),
      reads [0b11111101, 0b11001011, 0b11111110, 0b00001110] (.rrcIdx .iy 0xFE),
      reads [0b11011101, 0b11001011, 0b11111110, 0b00001010] (.rrcIdxR .ix 0xFE .d),
      reads [0b11111101, 0b11001011, 0b11111110, 0b00010110] (.rlIdx .iy 0xFE),
      reads [0b11011101, 0b11001011, 0b11111110, 0b00010001] (.rlIdxR .ix 0xFE .c),
      reads [0b11111101, 0b11001011, 0b11111110, 0b00011110] (.rrIdx .iy 0xFE),
      reads [0b11011101, 0b11001011, 0b11111110, 0b00011000] (.rrIdxR .ix 0xFE .b),
      reads [0b11111101, 0b11001011, 0b11111110, 0b00100110] (.slaIdx .iy 0xFE),
      reads [0b11011101, 0b11001011, 0b11111110, 0b00100111] (.slaIdxR .ix 0xFE .a),
      reads [0b11111101, 0b11001011, 0b11111110, 0b00101110] (.sraIdx .iy 0xFE),
      reads [0b11011101, 0b11001011, 0b11111110, 0b00101101] (.sraIdxR .ix 0xFE .l),
      reads [0b11111101, 0b11001011, 0b11111110, 0b00110110] (.sllIdx .iy 0xFE),
      reads [0b11011101, 0b11001011, 0b11111110, 0b00110100] (.sllIdxR .ix 0xFE .h),
      reads [0b11111101, 0b11001011, 0b11111110, 0b00111110] (.srlIdx .iy 0xFE),
      reads [0b11011101, 0b11001011, 0b11111110, 0b00111011] (.srlIdxR .ix 0xFE .e)
    ].all id = true := by decide

/-- Words of R456 to R460, written out from their encodings (30_encoding.md R103, R120). -/
theorem test_decode_indexed_bit :
    [
      reads [0b11111101, 0b11001011, 0b11111110, 0b01101011] (.bitIdx .iy 0xFE 5 3),
      reads [0b11011101, 0b11001011, 0b11111110, 0b11010110] (.setIdx .ix 0xFE 2),
      reads [0b11111101, 0b11001011, 0b11111110, 0b11111010] (.setIdxR .iy 0xFE 7 .d),
      reads [0b11011101, 0b11001011, 0b11111110, 0b10101110] (.resIdx .ix 0xFE 5),
      reads [0b11111101, 0b11001011, 0b11111110, 0b10010001] (.resIdxR .iy 0xFE 2 .c)
    ].all id = true := by decide

/-- Words of R470 to R483, written out from their encodings (30_encoding.md R103, R120). -/
theorem test_decode_control_transfer :
    [
      reads [0b11000011, 0b00110100, 0b00010010] (.jpNn 0x1234),
      reads [0b11110010, 0b00110100, 0b00010010] (.jpCcNn .p 0x1234),
      reads [0b00011000, 0b00010000] (.jrE 0x10),
      reads [0b00110000, 0b11111100] (.jrCcE .nc 0xFC),
      reads [0b11101001] (.jpHL),
      reads [0b11011101, 0b11101001] (.jpIi .ix),
      reads [0b00010000, 0b00010000] (.djnzE 0x10),
      reads [0b11001101, 0b00110100, 0b00010010] (.callNn 0x1234),
      reads [0b11011100, 0b00110100, 0b00010010] (.callCcNn .c 0x1234),
      reads [0b11001001] (.ret),
      reads [0b11110000] (.retCc .p),
      reads [0b11101101, 0b01001101] (.reti),
      reads [0b11101101, 0b01110101] (.retn 6),
      reads [0b11101111] (.rstP 5)
    ].all id = true := by decide

/-- Words of R490 to R497, written out from their encodings (30_encoding.md R103, R120). -/
theorem test_decode_block :
    [
      reads [0b11101101, 0b10100000] (.ldi),
      reads [0b11101101, 0b10110000] (.ldir),
      reads [0b11101101, 0b10101000] (.ldd),
      reads [0b11101101, 0b10111000] (.lddr),
      reads [0b11101101, 0b10100001] (.cpi),
      reads [0b11101101, 0b10110001] (.cpir),
      reads [0b11101101, 0b10101001] (.cpd),
      reads [0b11101101, 0b10111001] (.cpdr)
    ].all id = true := by decide

/-- Words of R500 to R513, written out from their encodings (30_encoding.md R103, R120). -/
theorem test_decode_io :
    [
      reads [0b11011011, 0b10011010] (.inAN 0x9A),
      reads [0b11101101, 0b01011000] (.inRC .e),
      reads [0b11101101, 0b01110000] (.inC),
      reads [0b11010011, 0b10011010] (.outNA 0x9A),
      reads [0b11101101, 0b01100001] (.outCR .h),
      reads [0b11101101, 0b01110001] (.outC0),
      reads [0b11101101, 0b10100010] (.ini),
      reads [0b11101101, 0b10110010] (.inir),
      reads [0b11101101, 0b10101010] (.ind),
      reads [0b11101101, 0b10111010] (.indr),
      reads [0b11101101, 0b10100011] (.outi),
      reads [0b11101101, 0b10110011] (.otir),
      reads [0b11101101, 0b10101011] (.outd),
      reads [0b11101101, 0b10111011] (.otdr)
    ].all id = true := by decide

/-- Words of R520 to R526, written out from their encodings (30_encoding.md R103, R120). -/
theorem test_decode_cpu_control :
    [
      reads [0b00000000] (.nop),
      reads [0b01110110] (.halt),
      reads [0b11110011] (.di),
      reads [0b11111011] (.ei),
      reads [0b11101101, 0b01101110] (.im0 true true),
      reads [0b11101101, 0b01010110] (.im1 false),
      reads [0b11101101, 0b01111110] (.im2 true)
    ].all id = true := by decide

/-- Words of R527 to R531, written out from their encodings (30_encoding.md R103, R120). -/
theorem test_decode_prefix_bytes :
    [
      reads [0b11001011] (.prefixCB),
      reads [0b11101101] (.prefixED),
      reads [0b11111101] (.prefixXY .iy),
      reads [0b11101101, 0b01110111] (.edNop 0x77),
      reads [0b11011101, 0b01110110] (.xyFallback .ix .halt)
    ].all id = true := by decide

/-- The worked examples of R300 to R309, one step each. -/
theorem test_step_R300_to_R309 :
    [
      (gives { base with b := 0x12, c := 0x34 } [] [0x41] fun t => t.f == 0x00 && t.b == 0x34 && t.pc == 0x0101 && t.tStates == 4),
      (gives base [] [0x3E, 0xA5] fun t => t.f == 0x00 && t.pc == 0x0102 && t.a == 0xA5 && t.tStates == 7),
      (gives { base with h := 0x20, l := 0x00 } [(0x2000, 0x7E)] [0x6E] fun t => t.f == 0x00 && t.l == 0x7E && t.pc == 0x0101 && t.tStates == 7),
      (gives { base with h := 0x20, l := 0x00, d := 0x99 } [] [0x72] fun t => t.f == 0x00 && t.pc == 0x0101 && t.peek 0x2000 == 0x99 && t.tStates == 7),
      (gives { base with h := 0x20, l := 0x00 } [] [0x36, 0x5A] fun t => t.f == 0x00 && t.pc == 0x0102 && t.peek 0x2000 == 0x5A && t.tStates == 10),
      (gives { base with b := 0x30, c := 0x00 } [(0x3000, 0x11)] [0x0A] fun t => t.f == 0x00 && t.pc == 0x0101 && t.a == 0x11 && t.tStates == 7),
      (gives { base with d := 0x30, e := 0x01 } [(0x3001, 0x22)] [0x1A] fun t => t.f == 0x00 && t.pc == 0x0101 && t.a == 0x22 && t.tStates == 7),
      (gives base [(0x1234, 0x77)] [0x3A, 0x34, 0x12] fun t => t.f == 0x00 && t.pc == 0x0103 && t.a == 0x77 && t.tStates == 13),
      (gives { base with a := 0x42, b := 0x10, c := 0x00 } [] [0x02] fun t => t.f == 0x00 && t.pc == 0x0101 && t.peek 0x1000 == 0x42 && t.tStates == 7),
      (gives { base with a := 0x42, d := 0x10, e := 0x01 } [] [0x12] fun t => t.f == 0x00 && t.pc == 0x0101 && t.peek 0x1001 == 0x42 && t.tStates == 7)
    ].all id = true := by decide

/-- The worked examples of R310 to R319, one step each. -/
theorem test_step_R310_to_R319 :
    [
      (gives { base with a := 0x5C } [] [0x32, 0x00, 0x40] fun t => t.f == 0x00 && t.pc == 0x0103 && t.peek 0x4000 == 0x5C && t.tStates == 13),
      (gives { base with a := 0x10 } [] [0xED, 0x47] fun t => t.f == 0x00 && t.pc == 0x0102 && t.i == 0x10 && t.tStates == 9),
      (gives { base with a := 0x85 } [] [0xED, 0x4F] fun t => t.f == 0x00 && t.pc == 0x0102 && t.tStates == 9),
      (gives { base with i := 0x80, iff2 := true, f := 0x01 } [] [0xED, 0x57] fun t => t.f == 0x85 && t.pc == 0x0102 && t.a == 0x80 && t.tStates == 9),
      (gives { base with r := 0x7E, iff2 := false } [] [0xED, 0x5F] fun t => t.pc == 0x0102 && t.f == 0x40 && t.tStates == 9),
      (gives { base with ix := 0x2000 } [(0x1FFE, 0x3C)] [0xDD, 0x66, 0xFE] fun t => t.f == 0x00 && t.pc == 0x0103 && t.h == 0x3C && t.tStates == 19),
      (gives { base with iy := 0x3000, l := 0x0F } [] [0xFD, 0x75, 0x7F] fun t => t.f == 0x00 && t.pc == 0x0103 && t.peek 0x307F == 0x0F && t.tStates == 19),
      (gives { base with ix := 0x4000 } [] [0xDD, 0x36, 0x05, 0xAA] fun t => t.f == 0x00 && t.pc == 0x0104 && t.peek 0x4005 == 0xAA && t.tStates == 19),
      (gives { base with ix := 0x12AB, b := 0x00 } [] [0xDD, 0x44] fun t => t.f == 0x00 && t.b == 0x12 && t.pc == 0x0102 && t.tStates == 8),
      (gives { base with iy := 0x0000 } [] [0xFD, 0x2E, 0x77] fun t => t.f == 0x00 && t.iy == 0x0077 && t.pc == 0x0103 && t.tStates == 11)
    ].all id = true := by decide

/-- The worked examples of R320 to R329, one step each. -/
theorem test_step_R320_to_R329 :
    [
      (gives base [] [0x31, 0x00, 0xC0] fun t => t.f == 0x00 && t.pc == 0x0103 && t.sp == 0xC000 && t.tStates == 10),
      (gives base [(0x4000, 0x34), (0x4001, 0x12)] [0x2A, 0x00, 0x40] fun t => t.f == 0x00 && t.pc == 0x0103 && t.h == 0x12 && t.l == 0x34 && t.tStates == 16),
      (gives { base with h := 0xBE, l := 0xEF } [] [0x22, 0x00, 0x40] fun t => t.f == 0x00 && t.pc == 0x0103 && t.peek 0x4000 == 0xEF && t.peek 0x4001 == 0xBE && t.tStates == 16),
      (gives base [(0x4000, 0x00), (0x4001, 0xD0)] [0xED, 0x7B, 0x00, 0x40] fun t => t.f == 0x00 && t.pc == 0x0104 && t.sp == 0xD000 && t.tStates == 20),
      (gives { base with b := 0x12, c := 0x34 } [] [0xED, 0x43, 0x10, 0x40] fun t => t.f == 0x00 && t.pc == 0x0104 && t.peek 0x4010 == 0x34 && t.peek 0x4011 == 0x12 && t.tStates == 20),
      (gives { base with h := 0x80, l := 0x00 } [] [0xF9] fun t => t.f == 0x00 && t.pc == 0x0101 && t.sp == 0x8000 && t.tStates == 6),
      (gives { base with a := 0x12, f := 0xFF, sp := 0x0001 } [] [0xF5] fun t => t.f == 0xFF && t.sp == 0xFFFF && t.pc == 0x0101 && t.peek 0x0000 == 0x12 && t.peek 0xFFFF == 0xFF && t.tStates == 11),
      (gives { base with sp := 0x8000 } [(0x8000, 0xD7), (0x8001, 0x9A)] [0xF1] fun t => t.sp == 0x8002 && t.pc == 0x0101 && t.a == 0x9A && t.f == 0xD7 && t.tStates == 10),
      (gives { base with d := 0x11, e := 0x11, h := 0x22, l := 0x22 } [] [0xEB] fun t => t.f == 0x00 && t.d == 0x22 && t.e == 0x22 && t.h == 0x11 && t.l == 0x11 && t.pc == 0x0101 && t.tStates == 4),
      (gives { base with a := 0x12, f := 0x34, a' := 0xAB, f' := 0xCD } [] [0x08] fun t => t.a == 0xAB && t.f == 0xCD && t.a' == 0x12 && t.f' == 0x34 && t.pc == 0x0101 && t.tStates == 4)
    ].all id = true := by decide

/-- The worked examples of R330 to R338, one step each. -/
theorem test_step_R330_to_R338 :
    [
      (gives { base with b := 0x00, c := 0x01, d := 0x00, e := 0x02, h := 0x00, l := 0x03, b' := 0x11, c' := 0x11, d' := 0x22, e' := 0x22, h' := 0x33, l' := 0x33 } [] [0xD9] fun t => t.f == 0x00 && t.b == 0x11 && t.c == 0x11 && t.d == 0x22 && t.e == 0x22 && t.h == 0x33 && t.l == 0x33 && t.b' == 0x00 && t.c' == 0x01 && t.d' == 0x00 && t.e' == 0x02 && t.h' == 0x00 && t.l' == 0x03 && t.pc == 0x0101 && t.tStates == 4),
      (gives { base with h := 0x70, l := 0x12, sp := 0x8856 } [(0x8856, 0x11), (0x8857, 0x22)] [0xE3] fun t => t.f == 0x00 && t.h == 0x22 && t.l == 0x11 && t.pc == 0x0101 && t.peek 0x8857 == 0x70 && t.peek 0x8856 == 0x12 && t.tStates == 19),
      (gives base [] [0xDD, 0x21, 0x34, 0x12] fun t => t.f == 0x00 && t.pc == 0x0104 && t.ix == 0x1234 && t.tStates == 14),
      (gives base [(0x4000, 0xCD), (0x4001, 0xAB)] [0xFD, 0x2A, 0x00, 0x40] fun t => t.f == 0x00 && t.pc == 0x0104 && t.iy == 0xABCD && t.tStates == 20),
      (gives { base with ix := 0xCAFE } [] [0xDD, 0x22, 0x00, 0x40] fun t => t.f == 0x00 && t.pc == 0x0104 && t.peek 0x4000 == 0xFE && t.peek 0x4001 == 0xCA && t.tStates == 20),
      (gives { base with iy := 0x9000 } [] [0xFD, 0xF9] fun t => t.f == 0x00 && t.pc == 0x0102 && t.sp == 0x9000 && t.tStates == 10),
      (gives { base with ix := 0x1234, sp := 0x8000 } [] [0xDD, 0xE5] fun t => t.f == 0x00 && t.sp == 0x7FFE && t.pc == 0x0102 && t.peek 0x7FFF == 0x12 && t.peek 0x7FFE == 0x34 && t.tStates == 15),
      (gives { base with sp := 0x8000 } [(0x8000, 0x78), (0x8001, 0x56)] [0xFD, 0xE1] fun t => t.f == 0x00 && t.sp == 0x8002 && t.pc == 0x0102 && t.iy == 0x5678 && t.tStates == 14),
      (gives { base with ix := 0x3988, sp := 0x0200 } [(0x0200, 0x90), (0x0201, 0x48)] [0xDD, 0xE3] fun t => t.f == 0x00 && t.ix == 0x4890 && t.pc == 0x0102 && t.peek 0x0201 == 0x39 && t.peek 0x0200 == 0x88 && t.tStates == 23)
    ].all id = true := by decide

/-- The worked examples of R347 to R356, one step each. -/
theorem test_step_R347_to_R356 :
    [
      (gives { base with a := 0x0F, b := 0x01, f := 0x00 } [] [0x80] fun t => t.a == 0x10 && t.f == 0x10 && t.pc == 0x0101 && t.tStates == 4),
      (gives { base with a := 0x0F, f := 0x00 } [] [0xC6, 0x01] fun t => t.a == 0x10 && t.f == 0x10 && t.pc == 0x0102 && t.tStates == 7),
      (gives { base with a := 0x0F, f := 0x00, h := 0x20, l := 0x00 } [(0x2000, 0x01)] [0x86] fun t => t.a == 0x10 && t.f == 0x10 && t.pc == 0x0101 && t.tStates == 7),
      (gives { base with a := 0x0F, f := 0x00, ix := 0x2000 } [(0x2003, 0x01)] [0xDD, 0x86, 0x03] fun t => t.a == 0x10 && t.f == 0x10 && t.pc == 0x0103 && t.tStates == 19),
      (gives { base with a := 0x0F, f := 0x00, ix := 0x0155 } [] [0xDD, 0x84] fun t => t.a == 0x10 && t.f == 0x10 && t.pc == 0x0102 && t.tStates == 8),
      (gives { base with a := 0xFF, b := 0x00, f := 0x01 } [] [0x88] fun t => t.a == 0x00 && t.f == 0x51 && t.pc == 0x0101 && t.tStates == 4),
      (gives { base with a := 0xFF, f := 0x01 } [] [0xCE, 0x00] fun t => t.a == 0x00 && t.f == 0x51 && t.pc == 0x0102 && t.tStates == 7),
      (gives { base with a := 0xFF, f := 0x01, h := 0x20, l := 0x00 } [(0x2000, 0x00)] [0x8E] fun t => t.a == 0x00 && t.f == 0x51 && t.pc == 0x0101 && t.tStates == 7),
      (gives { base with a := 0xFF, f := 0x01, ix := 0x2000 } [(0x2003, 0x00)] [0xDD, 0x8E, 0x03] fun t => t.a == 0x00 && t.f == 0x51 && t.pc == 0x0103 && t.tStates == 19),
      (gives { base with a := 0xFF, f := 0x01, ix := 0x0055 } [] [0xDD, 0x8C] fun t => t.a == 0x00 && t.f == 0x51 && t.pc == 0x0102 && t.tStates == 8)
    ].all id = true := by decide

/-- The worked examples of R357 to R366, one step each. -/
theorem test_step_R357_to_R366 :
    [
      (gives { base with a := 0x00, b := 0x01, f := 0x00 } [] [0x90] fun t => t.a == 0xFF && t.f == 0xBB && t.pc == 0x0101 && t.tStates == 4),
      (gives { base with a := 0x00, f := 0x00 } [] [0xD6, 0x01] fun t => t.a == 0xFF && t.f == 0xBB && t.pc == 0x0102 && t.tStates == 7),
      (gives { base with a := 0x00, f := 0x00, h := 0x20, l := 0x00 } [(0x2000, 0x01)] [0x96] fun t => t.a == 0xFF && t.f == 0xBB && t.pc == 0x0101 && t.tStates == 7),
      (gives { base with a := 0x00, f := 0x00, ix := 0x2000 } [(0x2003, 0x01)] [0xDD, 0x96, 0x03] fun t => t.a == 0xFF && t.f == 0xBB && t.pc == 0x0103 && t.tStates == 19),
      (gives { base with a := 0x00, f := 0x00, ix := 0x0155 } [] [0xDD, 0x94] fun t => t.a == 0xFF && t.f == 0xBB && t.pc == 0x0102 && t.tStates == 8),
      (gives { base with a := 0x10, b := 0x0F, f := 0x01 } [] [0x98] fun t => t.a == 0x00 && t.f == 0x52 && t.pc == 0x0101 && t.tStates == 4),
      (gives { base with a := 0x10, f := 0x01 } [] [0xDE, 0x0F] fun t => t.a == 0x00 && t.f == 0x52 && t.pc == 0x0102 && t.tStates == 7),
      (gives { base with a := 0x10, f := 0x01, h := 0x20, l := 0x00 } [(0x2000, 0x0F)] [0x9E] fun t => t.a == 0x00 && t.f == 0x52 && t.pc == 0x0101 && t.tStates == 7),
      (gives { base with a := 0x10, f := 0x01, ix := 0x2000 } [(0x2003, 0x0F)] [0xDD, 0x9E, 0x03] fun t => t.a == 0x00 && t.f == 0x52 && t.pc == 0x0103 && t.tStates == 19),
      (gives { base with a := 0x10, f := 0x01, ix := 0x0F55 } [] [0xDD, 0x9C] fun t => t.a == 0x00 && t.f == 0x52 && t.pc == 0x0102 && t.tStates == 8)
    ].all id = true := by decide

/-- The worked examples of R367 to R376, one step each. -/
theorem test_step_R367_to_R376 :
    [
      (gives { base with a := 0xF0, b := 0x3C, f := 0x01 } [] [0xA0] fun t => t.a == 0x30 && t.f == 0x34 && t.pc == 0x0101 && t.tStates == 4),
      (gives { base with a := 0xF0, f := 0x01 } [] [0xE6, 0x3C] fun t => t.a == 0x30 && t.f == 0x34 && t.pc == 0x0102 && t.tStates == 7),
      (gives { base with a := 0xF0, f := 0x01, h := 0x20, l := 0x00 } [(0x2000, 0x3C)] [0xA6] fun t => t.a == 0x30 && t.f == 0x34 && t.pc == 0x0101 && t.tStates == 7),
      (gives { base with a := 0xF0, f := 0x01, ix := 0x2000 } [(0x2003, 0x3C)] [0xDD, 0xA6, 0x03] fun t => t.a == 0x30 && t.f == 0x34 && t.pc == 0x0103 && t.tStates == 19),
      (gives { base with a := 0xF0, f := 0x01, ix := 0x3C55 } [] [0xDD, 0xA4] fun t => t.a == 0x30 && t.f == 0x34 && t.pc == 0x0102 && t.tStates == 8),
      (gives { base with a := 0xFF, b := 0x0F, f := 0x01 } [] [0xA8] fun t => t.a == 0xF0 && t.f == 0xA4 && t.pc == 0x0101 && t.tStates == 4),
      (gives { base with a := 0xFF, f := 0x01 } [] [0xEE, 0x0F] fun t => t.a == 0xF0 && t.f == 0xA4 && t.pc == 0x0102 && t.tStates == 7),
      (gives { base with a := 0xFF, f := 0x01, h := 0x20, l := 0x00 } [(0x2000, 0x0F)] [0xAE] fun t => t.a == 0xF0 && t.f == 0xA4 && t.pc == 0x0101 && t.tStates == 7),
      (gives { base with a := 0xFF, f := 0x01, ix := 0x2000 } [(0x2003, 0x0F)] [0xDD, 0xAE, 0x03] fun t => t.a == 0xF0 && t.f == 0xA4 && t.pc == 0x0103 && t.tStates == 19),
      (gives { base with a := 0xFF, f := 0x01, ix := 0x0F55 } [] [0xDD, 0xAC] fun t => t.a == 0xF0 && t.f == 0xA4 && t.pc == 0x0102 && t.tStates == 8)
    ].all id = true := by decide

/-- The worked examples of R377 to R386, one step each. -/
theorem test_step_R377_to_R386 :
    [
      (gives { base with a := 0x00, b := 0x00, f := 0x01 } [] [0xB0] fun t => t.f == 0x44 && t.pc == 0x0101 && t.tStates == 4),
      (gives { base with a := 0x00, f := 0x01 } [] [0xF6, 0x00] fun t => t.f == 0x44 && t.pc == 0x0102 && t.tStates == 7),
      (gives { base with a := 0x00, f := 0x01, h := 0x20, l := 0x00 } [(0x2000, 0x00)] [0xB6] fun t => t.f == 0x44 && t.pc == 0x0101 && t.tStates == 7),
      (gives { base with a := 0x00, f := 0x01, ix := 0x2000 } [(0x2003, 0x00)] [0xDD, 0xB6, 0x03] fun t => t.f == 0x44 && t.pc == 0x0103 && t.tStates == 19),
      (gives { base with a := 0x00, f := 0x01, ix := 0x0055 } [] [0xDD, 0xB4] fun t => t.f == 0x44 && t.pc == 0x0102 && t.tStates == 8),
      (gives { base with a := 0x40, b := 0x28, f := 0x00 } [] [0xB8] fun t => t.f == 0x3A && t.pc == 0x0101 && t.tStates == 4),
      (gives { base with a := 0x40, f := 0x00 } [] [0xFE, 0x28] fun t => t.f == 0x3A && t.pc == 0x0102 && t.tStates == 7),
      (gives { base with a := 0x40, f := 0x00, h := 0x20, l := 0x00 } [(0x2000, 0x28)] [0xBE] fun t => t.f == 0x3A && t.pc == 0x0101 && t.tStates == 7),
      (gives { base with a := 0x40, f := 0x00, ix := 0x2000 } [(0x2003, 0x28)] [0xDD, 0xBE, 0x03] fun t => t.f == 0x3A && t.pc == 0x0103 && t.tStates == 19),
      (gives { base with a := 0x40, f := 0x00, ix := 0x2855 } [] [0xDD, 0xBC] fun t => t.f == 0x3A && t.pc == 0x0102 && t.tStates == 8)
    ].all id = true := by decide

/-- The worked examples of R387 to R396, one step each. -/
theorem test_step_R387_to_R396 :
    [
      (gives { base with b := 0x7F, f := 0x01 } [] [0x04] fun t => t.b == 0x80 && t.f == 0x95 && t.pc == 0x0101 && t.tStates == 4),
      (gives { base with h := 0x20, l := 0x00 } [(0x2000, 0xFF)] [0x34] fun t => t.pc == 0x0101 && t.f == 0x50 && t.peek 0x2000 == 0x00 && t.tStates == 11),
      (gives { base with c := 0x01, f := 0x00 } [] [0x0D] fun t => t.c == 0x00 && t.f == 0x42 && t.pc == 0x0101 && t.tStates == 4),
      (gives { base with h := 0x20, l := 0x00, f := 0x01 } [(0x2000, 0x80)] [0x35] fun t => t.f == 0x3F && t.pc == 0x0101 && t.peek 0x2000 == 0x7F && t.tStates == 11),
      (gives { base with ix := 0x12FF } [] [0xDD, 0x2C] fun t => t.ix == 0x1200 && t.pc == 0x0102 && t.f == 0x50 && t.tStates == 8),
      (gives { base with iy := 0x0100 } [] [0xFD, 0x25] fun t => t.iy == 0x0000 && t.pc == 0x0102 && t.f == 0x42 && t.tStates == 8),
      (gives { base with ix := 0x2000 } [(0x2010, 0x0F)] [0xDD, 0x34, 0x10] fun t => t.pc == 0x0103 && t.f == 0x10 && t.peek 0x2010 == 0x10 && t.tStates == 23),
      (gives { base with iy := 0x2000 } [(0x1FFF, 0x10)] [0xFD, 0x35, 0xFF] fun t => t.pc == 0x0103 && t.f == 0x1A && t.peek 0x1FFF == 0x0F && t.tStates == 23),
      (gives { base with a := 0x3C, f := 0x00 } [] [0x27] fun t => t.a == 0x42 && t.f == 0x14 && t.pc == 0x0101 && t.tStates == 4),
      (gives { base with a := 0xB4, f := 0x00 } [] [0x2F] fun t => t.a == 0x4B && t.f == 0x1A && t.pc == 0x0101 && t.tStates == 4)
    ].all id = true := by decide

/-- The worked examples of R397 to R399, one step each. -/
theorem test_step_R397_to_R399 :
    [
      (gives { base with a := 0x80, f := 0x00 } [] [0xED, 0x44] fun t => t.f == 0x87 && t.pc == 0x0102 && t.tStates == 8),
      (gives { base with a := 0x28, f := 0xD6 } [] [0x37] fun t => t.f == 0xED && t.pc == 0x0101 && t.tStates == 4),
      (gives { base with a := 0x00, f := 0x01 } [] [0x3F] fun t => t.f == 0x10 && t.pc == 0x0101 && t.tStates == 4)
    ].all id = true := by decide

/-- The worked examples of R402 to R409, one step each. -/
theorem test_step_R402_to_R409 :
    [
      (gives { base with h := 0x0F, l := 0xFF, b := 0x00, c := 0x01, f := 0xC4 } [] [0x09] fun t => t.h == 0x10 && t.l == 0x00 && t.f == 0xD4 && t.pc == 0x0101 && t.tStates == 11),
      (gives { base with h := 0x7F, l := 0xFF, d := 0x00, e := 0x00, f := 0x01 } [] [0xED, 0x5A] fun t => t.h == 0x80 && t.l == 0x00 && t.f == 0x94 && t.pc == 0x0102 && t.tStates == 15),
      (gives { base with h := 0x00, l := 0x00, b := 0x00, c := 0x01, f := 0x00 } [] [0xED, 0x42] fun t => t.h == 0xFF && t.l == 0xFF && t.f == 0xBB && t.pc == 0x0102 && t.tStates == 15),
      (gives { base with d := 0xFF, e := 0xFF, f := 0x00 } [] [0x13] fun t => t.f == 0x00 && t.d == 0x00 && t.e == 0x00 && t.pc == 0x0101 && t.tStates == 6),
      (gives { base with b := 0x00, c := 0x00, f := 0xFF } [] [0x0B] fun t => t.f == 0xFF && t.b == 0xFF && t.c == 0xFF && t.pc == 0x0101 && t.tStates == 6),
      (gives { base with ix := 0x8000, f := 0x00 } [] [0xDD, 0x29] fun t => t.ix == 0x0000 && t.f == 0x01 && t.pc == 0x0102 && t.tStates == 15),
      (gives { base with iy := 0x00FF } [] [0xFD, 0x23] fun t => t.f == 0x00 && t.iy == 0x0100 && t.pc == 0x0102 && t.tStates == 10),
      (gives { base with ix := 0x0000 } [] [0xDD, 0x2B] fun t => t.f == 0x00 && t.ix == 0xFFFF && t.pc == 0x0102 && t.tStates == 10)
    ].all id = true := by decide

/-- The worked examples of R412 to R421, one step each. -/
theorem test_step_R412_to_R421 :
    [
      (gives { base with a := 0x81, f := 0xC4 } [] [0x07] fun t => t.a == 0x03 && t.f == 0xC5 && t.pc == 0x0101 && t.tStates == 4),
      (gives { base with a := 0x81, f := 0xC4 } [] [0x0F] fun t => t.a == 0xC0 && t.f == 0xC5 && t.pc == 0x0101 && t.tStates == 4),
      (gives { base with a := 0x81, f := 0xC5 } [] [0x17] fun t => t.f == 0xC5 && t.a == 0x03 && t.pc == 0x0101 && t.tStates == 4),
      (gives { base with a := 0x81, f := 0xC5 } [] [0x1F] fun t => t.f == 0xC5 && t.a == 0xC0 && t.pc == 0x0101 && t.tStates == 4),
      (gives { base with b := 0x80, f := 0x00 } [] [0xCB, 0x00] fun t => t.b == 0x01 && t.f == 0x01 && t.pc == 0x0102 && t.tStates == 8),
      (gives { base with h := 0x20, l := 0x00, f := 0x01 } [(0x2000, 0x81)] [0xCB, 0x06] fun t => t.f == 0x05 && t.pc == 0x0102 && t.peek 0x2000 == 0x03 && t.tStates == 15),
      (gives { base with b := 0x80, f := 0x00 } [] [0xCB, 0x08] fun t => t.f == 0x00 && t.b == 0x40 && t.pc == 0x0102 && t.tStates == 8),
      (gives { base with h := 0x20, l := 0x00, f := 0x01 } [(0x2000, 0x81)] [0xCB, 0x0E] fun t => t.f == 0x85 && t.pc == 0x0102 && t.peek 0x2000 == 0xC0 && t.tStates == 15),
      (gives { base with b := 0x80, f := 0x00 } [] [0xCB, 0x10] fun t => t.b == 0x00 && t.f == 0x45 && t.pc == 0x0102 && t.tStates == 8),
      (gives { base with h := 0x20, l := 0x00, f := 0x01 } [(0x2000, 0x81)] [0xCB, 0x16] fun t => t.f == 0x05 && t.pc == 0x0102 && t.peek 0x2000 == 0x03 && t.tStates == 15)
    ].all id = true := by decide

/-- The worked examples of R422 to R431, one step each. -/
theorem test_step_R422_to_R431 :
    [
      (gives { base with b := 0x80, f := 0x00 } [] [0xCB, 0x18] fun t => t.f == 0x00 && t.b == 0x40 && t.pc == 0x0102 && t.tStates == 8),
      (gives { base with h := 0x20, l := 0x00, f := 0x01 } [(0x2000, 0x81)] [0xCB, 0x1E] fun t => t.f == 0x85 && t.pc == 0x0102 && t.peek 0x2000 == 0xC0 && t.tStates == 15),
      (gives { base with b := 0x80, f := 0x00 } [] [0xCB, 0x20] fun t => t.b == 0x00 && t.f == 0x45 && t.pc == 0x0102 && t.tStates == 8),
      (gives { base with h := 0x20, l := 0x00, f := 0x01 } [(0x2000, 0x81)] [0xCB, 0x26] fun t => t.f == 0x01 && t.pc == 0x0102 && t.peek 0x2000 == 0x02 && t.tStates == 15),
      (gives { base with b := 0x80, f := 0x00 } [] [0xCB, 0x28] fun t => t.b == 0xC0 && t.f == 0x84 && t.pc == 0x0102 && t.tStates == 8),
      (gives { base with h := 0x20, l := 0x00, f := 0x01 } [(0x2000, 0x81)] [0xCB, 0x2E] fun t => t.f == 0x85 && t.pc == 0x0102 && t.peek 0x2000 == 0xC0 && t.tStates == 15),
      (gives { base with b := 0x80, f := 0x00 } [] [0xCB, 0x30] fun t => t.b == 0x01 && t.f == 0x01 && t.pc == 0x0102 && t.tStates == 8),
      (gives { base with h := 0x20, l := 0x00, f := 0x01 } [(0x2000, 0x81)] [0xCB, 0x36] fun t => t.f == 0x05 && t.pc == 0x0102 && t.peek 0x2000 == 0x03 && t.tStates == 15),
      (gives { base with b := 0x80, f := 0x00 } [] [0xCB, 0x38] fun t => t.f == 0x00 && t.b == 0x40 && t.pc == 0x0102 && t.tStates == 8),
      (gives { base with h := 0x20, l := 0x00, f := 0x01 } [(0x2000, 0x81)] [0xCB, 0x3E] fun t => t.f == 0x01 && t.pc == 0x0102 && t.peek 0x2000 == 0x40 && t.tStates == 15)
    ].all id = true := by decide

/-- The worked examples of R432 to R439, one step each. -/
theorem test_step_R432_to_R439 :
    [
      (gives { base with d := 0x28, f := 0x01 } [] [0xCB, 0x5A] fun t => t.f == 0x39 && t.pc == 0x0102 && t.tStates == 8),
      (gives { base with h := 0x20, l := 0x00, f := 0x00 } [(0x2000, 0x80)] [0xCB, 0x7E] fun t => t.pc == 0x0102 && t.tStates == 12 && t.freeCount == 1),
      (gives { base with a := 0x00 } [] [0xCB, 0xFF] fun t => t.f == 0x00 && t.a == 0x80 && t.pc == 0x0102 && t.tStates == 8),
      (gives { base with h := 0x20, l := 0x00 } [(0x2000, 0x01)] [0xCB, 0xE6] fun t => t.f == 0x00 && t.pc == 0x0102 && t.peek 0x2000 == 0x11 && t.tStates == 15),
      (gives { base with e := 0xFF } [] [0xCB, 0x83] fun t => t.f == 0x00 && t.e == 0xFE && t.pc == 0x0102 && t.tStates == 8),
      (gives { base with h := 0x20, l := 0x00 } [(0x2000, 0xFF)] [0xCB, 0xBE] fun t => t.f == 0x00 && t.pc == 0x0102 && t.peek 0x2000 == 0x7F && t.tStates == 15),
      (gives { base with a := 0x7A, h := 0x50, l := 0x00, f := 0x01 } [(0x5000, 0x31)] [0xED, 0x6F] fun t => t.a == 0x73 && t.f == 0x21 && t.pc == 0x0102 && t.peek 0x5000 == 0x1A && t.tStates == 18),
      (gives { base with a := 0x84, h := 0x50, l := 0x00, f := 0x00 } [(0x5000, 0x20)] [0xED, 0x67] fun t => t.a == 0x80 && t.f == 0x80 && t.pc == 0x0102 && t.peek 0x5000 == 0x42 && t.tStates == 18)
    ].all id = true := by decide

/-- The worked examples of R440 to R449, one step each. -/
theorem test_step_R440_to_R449 :
    [
      (gives { base with ix := 0x2000, f := 0x00 } [(0x2002, 0x80)] [0xDD, 0xCB, 0x02, 0x06] fun t => t.f == 0x01 && t.pc == 0x0104 && t.peek 0x2002 == 0x01 && t.tStates == 23),
      (gives { base with iy := 0x2000, f := 0x00, b := 0x55 } [(0x2002, 0x81)] [0xFD, 0xCB, 0x02, 0x00] fun t => t.f == 0x05 && t.b == 0x03 && t.pc == 0x0104 && t.peek 0x2002 == 0x03 && t.tStates == 23),
      (gives { base with ix := 0x2000, f := 0x00 } [(0x2002, 0x80)] [0xDD, 0xCB, 0x02, 0x0E] fun t => t.f == 0x00 && t.pc == 0x0104 && t.peek 0x2002 == 0x40 && t.tStates == 23),
      (gives { base with iy := 0x2000, f := 0x00, b := 0x55 } [(0x2002, 0x81)] [0xFD, 0xCB, 0x02, 0x08] fun t => t.f == 0x85 && t.b == 0xC0 && t.pc == 0x0104 && t.peek 0x2002 == 0xC0 && t.tStates == 23),
      (gives { base with ix := 0x2000, f := 0x00 } [(0x2002, 0x80)] [0xDD, 0xCB, 0x02, 0x16] fun t => t.f == 0x45 && t.pc == 0x0104 && t.peek 0x2002 == 0x00 && t.tStates == 23),
      (gives { base with iy := 0x2000, f := 0x00, b := 0x55 } [(0x2002, 0x81)] [0xFD, 0xCB, 0x02, 0x10] fun t => t.f == 0x01 && t.b == 0x02 && t.pc == 0x0104 && t.peek 0x2002 == 0x02 && t.tStates == 23),
      (gives { base with ix := 0x2000, f := 0x00 } [(0x2002, 0x80)] [0xDD, 0xCB, 0x02, 0x1E] fun t => t.f == 0x00 && t.pc == 0x0104 && t.peek 0x2002 == 0x40 && t.tStates == 23),
      (gives { base with iy := 0x2000, f := 0x00, b := 0x55 } [(0x2002, 0x81)] [0xFD, 0xCB, 0x02, 0x18] fun t => t.f == 0x01 && t.b == 0x40 && t.pc == 0x0104 && t.peek 0x2002 == 0x40 && t.tStates == 23),
      (gives { base with ix := 0x2000, f := 0x00 } [(0x2002, 0x80)] [0xDD, 0xCB, 0x02, 0x26] fun t => t.f == 0x45 && t.pc == 0x0104 && t.peek 0x2002 == 0x00 && t.tStates == 23),
      (gives { base with iy := 0x2000, f := 0x00, b := 0x55 } [(0x2002, 0x81)] [0xFD, 0xCB, 0x02, 0x20] fun t => t.f == 0x01 && t.b == 0x02 && t.pc == 0x0104 && t.peek 0x2002 == 0x02 && t.tStates == 23)
    ].all id = true := by decide

/-- The worked examples of R450 to R455, one step each. -/
theorem test_step_R450_to_R455 :
    [
      (gives { base with ix := 0x2000, f := 0x00 } [(0x2002, 0x80)] [0xDD, 0xCB, 0x02, 0x2E] fun t => t.f == 0x84 && t.pc == 0x0104 && t.peek 0x2002 == 0xC0 && t.tStates == 23),
      (gives { base with iy := 0x2000, f := 0x00, b := 0x55 } [(0x2002, 0x81)] [0xFD, 0xCB, 0x02, 0x28] fun t => t.f == 0x85 && t.b == 0xC0 && t.pc == 0x0104 && t.peek 0x2002 == 0xC0 && t.tStates == 23),
      (gives { base with ix := 0x2000, f := 0x00 } [(0x2002, 0x80)] [0xDD, 0xCB, 0x02, 0x36] fun t => t.f == 0x01 && t.pc == 0x0104 && t.peek 0x2002 == 0x01 && t.tStates == 23),
      (gives { base with iy := 0x2000, f := 0x00, b := 0x55 } [(0x2002, 0x81)] [0xFD, 0xCB, 0x02, 0x30] fun t => t.f == 0x05 && t.b == 0x03 && t.pc == 0x0104 && t.peek 0x2002 == 0x03 && t.tStates == 23),
      (gives { base with ix := 0x2000, f := 0x00 } [(0x2002, 0x80)] [0xDD, 0xCB, 0x02, 0x3E] fun t => t.f == 0x00 && t.pc == 0x0104 && t.peek 0x2002 == 0x40 && t.tStates == 23),
      (gives { base with iy := 0x2000, f := 0x00, b := 0x55 } [(0x2002, 0x81)] [0xFD, 0xCB, 0x02, 0x38] fun t => t.f == 0x01 && t.b == 0x40 && t.pc == 0x0104 && t.peek 0x2002 == 0x40 && t.tStates == 23)
    ].all id = true := by decide

/-- The worked examples of R456 to R460, one step each. -/
theorem test_step_R456_to_R460 :
    [
      (gives { base with ix := 0x2800, f := 0x00 } [(0x2805, 0x40)] [0xDD, 0xCB, 0x05, 0x76] fun t => t.f == 0x38 && t.pc == 0x0104 && t.tStates == 20),
      (gives { base with ix := 0x2000 } [(0x2001, 0x0F)] [0xDD, 0xCB, 0x01, 0xFE] fun t => t.f == 0x00 && t.pc == 0x0104 && t.peek 0x2001 == 0x8F && t.tStates == 23),
      (gives { base with iy := 0x2000, c := 0x00 } [(0x2001, 0xF0)] [0xFD, 0xCB, 0x01, 0xC1] fun t => t.f == 0x00 && t.c == 0xF1 && t.pc == 0x0104 && t.peek 0x2001 == 0xF1 && t.tStates == 23),
      (gives { base with ix := 0x2000 } [(0x2001, 0x0F)] [0xDD, 0xCB, 0x01, 0x86] fun t => t.f == 0x00 && t.pc == 0x0104 && t.peek 0x2001 == 0x0E && t.tStates == 23),
      (gives { base with iy := 0x2000, c := 0x00 } [(0x2001, 0xF0)] [0xFD, 0xCB, 0x01, 0xA1] fun t => t.f == 0x00 && t.c == 0xE0 && t.pc == 0x0104 && t.peek 0x2001 == 0xE0 && t.tStates == 23)
    ].all id = true := by decide

/-- The worked examples of R470 to R479, one step each. -/
theorem test_step_R470_to_R479 :
    [
      (gives base [] [0xC3, 0x00, 0x80] fun t => t.f == 0x00 && t.pc == 0x8000 && t.tStates == 10),
      (gives { base with f := 0x40 } [] [0xCA, 0x00, 0x80] fun t => t.f == 0x40 && t.pc == 0x8000 && t.tStates == 10),
      (gives base [] [0x18, 0xFE] fun t => t.f == 0x00 && t.pc == 0x0100 && t.tStates == 12),
      (gives { base with f := 0x00 } [] [0x20, 0x10] fun t => t.f == 0x00 && t.pc == 0x0112 && t.tStates == 12),
      (gives { base with h := 0x48, l := 0x00 } [] [0xE9] fun t => t.f == 0x00 && t.pc == 0x4800 && t.tStates == 4),
      (gives { base with iy := 0x4800 } [] [0xFD, 0xE9] fun t => t.f == 0x00 && t.pc == 0x4800 && t.tStates == 8),
      (gives { base with b := 0x01 } [] [0x10, 0xFE] fun t => t.f == 0x00 && t.b == 0x00 && t.pc == 0x0102 && t.tStates == 8),
      (gives { base with sp := 0x8000 } [] [0xCD, 0x00, 0x20] fun t => t.f == 0x00 && t.sp == 0x7FFE && t.pc == 0x2000 && t.peek 0x7FFF == 0x01 && t.peek 0x7FFE == 0x03 && t.tStates == 17),
      (gives { base with sp := 0x8000, f := 0x01 } [] [0xDC, 0x00, 0x20] fun t => t.f == 0x01 && t.sp == 0x7FFE && t.pc == 0x2000 && t.peek 0x7FFF == 0x01 && t.peek 0x7FFE == 0x03 && t.tStates == 17),
      (gives { base with sp := 0x7FFE } [(0x7FFE, 0x03), (0x7FFF, 0x01)] [0xC9] fun t => t.f == 0x00 && t.sp == 0x8000 && t.pc == 0x0103 && t.tStates == 10)
    ].all id = true := by decide

/-- The worked examples of R480 to R483, one step each. -/
theorem test_step_R480_to_R483 :
    [
      (gives { base with sp := 0x7FFE, f := 0x80 } [(0x7FFE, 0x03), (0x7FFF, 0x01)] [0xF8] fun t => t.f == 0x80 && t.sp == 0x8000 && t.pc == 0x0103 && t.tStates == 11),
      (gives { base with sp := 0x7FFE, iff1 := false, iff2 := true } [(0x7FFE, 0x34), (0x7FFF, 0x12)] [0xED, 0x4D] fun t => t.f == 0x00 && t.sp == 0x8000 && t.iff1 == true && t.pc == 0x1234 && t.tStates == 14),
      (gives { base with sp := 0x7FFE, iff1 := false, iff2 := true } [(0x7FFE, 0x34), (0x7FFF, 0x12)] [0xED, 0x45] fun t => t.f == 0x00 && t.sp == 0x8000 && t.iff1 == true && t.pc == 0x1234 && t.tStates == 14),
      (gives { base with sp := 0x8000 } [] [0xFF] fun t => t.f == 0x00 && t.sp == 0x7FFE && t.pc == 0x0038 && t.peek 0x7FFF == 0x01 && t.peek 0x7FFE == 0x01 && t.tStates == 11)
    ].all id = true := by decide

/-- The worked examples of R490 to R497, one step each. -/
theorem test_step_R490_to_R497 :
    [
      (gives { base with h := 0x10, l := 0x00, d := 0x20, e := 0x00, b := 0x00, c := 0x01, a := 0x00, f := 0xFF } [(0x1000, 0x88)] [0xED, 0xA0] fun t => t.l == 0x01 && t.e == 0x01 && t.c == 0x00 && t.f == 0xC9 && t.pc == 0x0102 && t.peek 0x2000 == 0x88 && t.tStates == 16),
      (gives { base with h := 0x10, l := 0x00, d := 0x20, e := 0x00, b := 0x00, c := 0x02, a := 0x00, f := 0xFF } [(0x1000, 0x88)] [0xED, 0xB0] fun t => t.l == 0x01 && t.e == 0x01 && t.c == 0x01 && t.f == 0xCD && t.pc == 0x0100 && t.peek 0x2000 == 0x88 && t.tStates == 21),
      (gives { base with h := 0x10, l := 0x00, d := 0x20, e := 0x00, b := 0x00, c := 0x01, a := 0x00, f := 0xFF } [(0x1000, 0x88)] [0xED, 0xA8] fun t => t.h == 0x0F && t.l == 0xFF && t.d == 0x1F && t.e == 0xFF && t.c == 0x00 && t.f == 0xC9 && t.pc == 0x0102 && t.peek 0x2000 == 0x88 && t.tStates == 16),
      (gives { base with h := 0x10, l := 0x00, d := 0x20, e := 0x00, b := 0x00, c := 0x02, a := 0x00, f := 0xFF } [(0x1000, 0x88)] [0xED, 0xB8] fun t => t.h == 0x0F && t.l == 0xFF && t.d == 0x1F && t.e == 0xFF && t.c == 0x01 && t.f == 0xCD && t.pc == 0x0100 && t.peek 0x2000 == 0x88 && t.tStates == 21),
      (gives { base with h := 0x10, l := 0x00, b := 0x00, c := 0x03, a := 0x3B, f := 0x00 } [(0x1000, 0x3B), (0x1001, 0x3B)] [0xED, 0xA1] fun t => t.l == 0x01 && t.c == 0x02 && t.f == 0x46 && t.pc == 0x0102 && t.tStates == 16),
      (gives { base with h := 0x10, l := 0x00, b := 0x00, c := 0x03, a := 0x3B, f := 0x00 } [(0x1000, 0x00), (0x1001, 0x3B)] [0xED, 0xB1] fun t => t.l == 0x01 && t.c == 0x02 && t.f == 0x2E && t.pc == 0x0100 && t.tStates == 21),
      (gives { base with h := 0x10, l := 0x00, b := 0x00, c := 0x03, a := 0x3B, f := 0x00 } [(0x1000, 0x3B), (0x1001, 0x3B)] [0xED, 0xA9] fun t => t.h == 0x0F && t.l == 0xFF && t.c == 0x02 && t.f == 0x46 && t.pc == 0x0102 && t.tStates == 16),
      (gives { base with h := 0x10, l := 0x00, b := 0x00, c := 0x03, a := 0x3B, f := 0x00 } [(0x1000, 0x00), (0x1001, 0x3B)] [0xED, 0xB9] fun t => t.h == 0x0F && t.l == 0xFF && t.c == 0x02 && t.f == 0x2E && t.pc == 0x0100 && t.tStates == 21)
    ].all id = true := by decide

/-- The worked examples of R500 to R509, one step each. -/
theorem test_step_R500_to_R509 :
    [
      (gives (withPorts { base with a := 0x12 } [0x7B]) [] [0xDB, 0x34] fun t => t.f == 0x00 && t.a == 0x7B && t.pc == 0x0102 && ports t == [.portRead 0x1234 0x7B] && t.tStates == 11),
      (gives (withPorts { base with b := 0x10, c := 0xFE, f := 0x01 } [0x00]) [] [0xED, 0x50] fun t => t.f == 0x45 && t.pc == 0x0102 && ports t == [.portRead 0x10FE 0x00] && t.tStates == 12),
      (gives (withPorts { base with b := 0x10, c := 0xFE, f := 0x00 } [0x81]) [] [0xED, 0x70] fun t => t.f == 0x84 && t.pc == 0x0102 && ports t == [.portRead 0x10FE 0x81] && t.tStates == 12),
      (gives { base with a := 0x23 } [] [0xD3, 0x01] fun t => t.f == 0x00 && t.pc == 0x0102 && ports t == [.portWrite 0x2301 0x23] && t.tStates == 11),
      (gives { base with b := 0x20, c := 0xFE, d := 0x5A } [] [0xED, 0x51] fun t => t.f == 0x00 && t.pc == 0x0102 && ports t == [.portWrite 0x20FE 0x5A] && t.tStates == 12),
      (gives { base with b := 0x20, c := 0xFE } [] [0xED, 0x71] fun t => t.f == 0x00 && t.pc == 0x0102 && t.tStates == 12),
      (gives (withPorts { base with b := 0x01, c := 0xFE, h := 0x30, l := 0x00, f := 0x00 } [0x80]) [] [0xED, 0xA2] fun t => t.b == 0x00 && t.l == 0x01 && t.f == 0x53 && t.pc == 0x0102 && t.peek 0x3000 == 0x80 && ports t == [.portRead 0x01FE 0x80] && t.tStates == 16),
      (gives (withPorts { base with b := 0x02, c := 0xFE, h := 0x30, l := 0x00, f := 0x00 } [0x80]) [] [0xED, 0xB2] fun t => t.b == 0x01 && t.l == 0x01 && t.f == 0x17 && t.pc == 0x0100 && t.peek 0x3000 == 0x80 && ports t == [.portRead 0x02FE 0x80] && t.tStates == 21),
      (gives (withPorts { base with b := 0x01, c := 0xFE, h := 0x30, l := 0x00, f := 0x00 } [0x80]) [] [0xED, 0xAA] fun t => t.b == 0x00 && t.h == 0x2F && t.l == 0xFF && t.f == 0x57 && t.pc == 0x0102 && t.peek 0x3000 == 0x80 && ports t == [.portRead 0x01FE 0x80] && t.tStates == 16),
      (gives (withPorts { base with b := 0x02, c := 0xFE, h := 0x30, l := 0x00, f := 0x00 } [0x80]) [] [0xED, 0xBA] fun t => t.b == 0x01 && t.h == 0x2F && t.l == 0xFF && t.f == 0x13 && t.pc == 0x0100 && t.peek 0x3000 == 0x80 && ports t == [.portRead 0x02FE 0x80] && t.tStates == 21)
    ].all id = true := by decide

/-- The worked examples of R510 to R513, one step each. -/
theorem test_step_R510_to_R513 :
    [
      (gives { base with b := 0x01, c := 0xFE, h := 0x30, l := 0x00, f := 0x00 } [(0x3000, 0x59)] [0xED, 0xA3] fun t => t.b == 0x00 && t.l == 0x01 && t.f == 0x40 && t.pc == 0x0102 && ports t == [.portWrite 0x00FE 0x59] && t.tStates == 16),
      (gives { base with b := 0x02, c := 0xFE, h := 0x30, l := 0x00, f := 0x00 } [(0x3000, 0x59)] [0xED, 0xB3] fun t => t.b == 0x01 && t.l == 0x01 && t.f == 0x04 && t.pc == 0x0100 && ports t == [.portWrite 0x01FE 0x59] && t.tStates == 21),
      (gives { base with b := 0x01, c := 0xFE, h := 0x30, l := 0x00, f := 0x00 } [(0x3000, 0x59)] [0xED, 0xAB] fun t => t.b == 0x00 && t.h == 0x2F && t.l == 0xFF && t.f == 0x55 && t.pc == 0x0102 && ports t == [.portWrite 0x00FE 0x59] && t.tStates == 16),
      (gives { base with b := 0x02, c := 0xFE, h := 0x30, l := 0x00, f := 0x00 } [(0x3000, 0x59)] [0xED, 0xBB] fun t => t.b == 0x01 && t.h == 0x2F && t.l == 0xFF && t.f == 0x11 && t.pc == 0x0100 && ports t == [.portWrite 0x01FE 0x59] && t.tStates == 21)
    ].all id = true := by decide

/-- The worked examples of R520 to R526, one step each. -/
theorem test_step_R520_to_R526 :
    [
      (gives base [] [0x00] fun t => t.f == 0x00 && t.pc == 0x0101 && t.tStates == 4),
      (gives base [] [0x76] fun t => t.f == 0x00 && t.pc == 0x0101 && t.halted == true && t.tStates == 4),
      (gives { base with iff1 := true, iff2 := true } [] [0xF3] fun t => t.f == 0x00 && t.iff1 == false && t.iff2 == false && t.pc == 0x0101 && t.tStates == 4),
      (gives base [] [0xFB] fun t => t.f == 0x00 && t.pc == 0x0101 && t.iff1 == true && t.iff2 == true && t.eiDelay == true && t.tStates == 4),
      (gives { base with im := .im2 } [] [0xED, 0x46] fun t => t.f == 0x00 && t.im == .im0 && t.pc == 0x0102 && t.tStates == 8),
      (gives base [] [0xED, 0x56] fun t => t.f == 0x00 && t.pc == 0x0102 && t.im == .im1 && t.tStates == 8),
      (gives base [] [0xED, 0x5E] fun t => t.f == 0x00 && t.pc == 0x0102 && t.im == .im2 && t.tStates == 8)
    ].all id = true := by decide

/-- The worked examples of R530 to R531, one step each. -/
theorem test_step_R530_to_R531 :
    [
      (gives base [] [0xED, 0x00] fun t => t.f == 0x00 && t.pc == 0x0102 && t.tStates == 8),
      (gives base [] [0xDD, 0x01, 0x34, 0x12] fun t => t.f == 0x00 && t.pc == 0x0104 && t.b == 0x12 && t.c == 0x34 && t.tStates == 14)
    ].all id = true := by decide

/-- `BIT 7,(HL)` on 0x80: the flags the free bits 5 and 3 leave (R411, R433). -/
theorem test_bit_at_hl_fixed_flags : ∀ yx : Byte, bitf 7 0x80 yx 0x00 &&& 0xD7 = 0x90 := by decide

/-- `OUT (C),0` writes its free byte to the port BC (R505). -/
theorem test_out_c_0_port :
    gives { base with b := 0x12, c := 0x34 } [] [0xED, 0x71] (fun t =>
      t.tStates == 12 && match t.bus.trace with | .portWrite p _ :: _ => p == 0x1234 | _ => false) = true := by decide

/-! ## Lead-in bytes -/

/-- A dropped DD byte before another DD byte costs 4 T-states and one R increment (R111 a, V48). -/
theorem test_dropped_dd_before_dd :
    gives base [] [0xDD, 0xDD, 0x21, 0x34, 0x12] (fun t =>
      t.ix == 0x1234 && t.pc == 0x0105 && t.r == 3 && t.tStates == 18) = true := by decide

/-- A DD byte before ED is dropped (R111 b). -/
theorem test_dropped_dd_before_ed :
    gives { base with a := 0x10 } [] [0xDD, 0xED, 0x47] (fun t =>
      t.i == 0x10 && t.pc == 0x0103 && t.r == 3 && t.tStates == 13) = true := by decide

/-! ## The shared ALU functions: the vectors of 95_test_vectors.md part 4 -/

theorem test_add8_vectors :
    add8 0x0F 0x01 false = (0x10, 0x10) ∧ add8 0xFF 0x01 false = (0x00, 0x51) ∧ add8 0x7F 0x01 false = (0x80, 0x94) ∧
    add8 0x80 0x80 false = (0x00, 0x45) ∧ add8 0x7F 0x7F true = (0xFF, 0xBC) ∧ add8 0xFF 0xFF true = (0xFF, 0xB9) ∧
    add8 0x28 0x00 false = (0x28, 0x28) := by decide

theorem test_sub8_vectors :
    sub8 0x00 0x00 false = (0x00, 0x42) ∧ sub8 0x00 0x01 false = (0xFF, 0xBB) ∧ sub8 0x80 0x01 false = (0x7F, 0x3E) ∧
    sub8 0x7F 0xFF false = (0x80, 0x87) ∧ sub8 0x00 0x00 true = (0xFF, 0xBB) ∧ sub8 0x80 0x7F true = (0x00, 0x56) ∧
    sub8 0x29 0x01 false = (0x28, 0x2A) := by decide

theorem test_rotf_vectors :
    rotf .rlc 0x80 0 = (0x01, 0x01) ∧ rotf .rrc 0x01 1 = (0x80, 0x81) ∧ rotf .rl 0x80 0 = (0x00, 0x45) ∧
    rotf .rl 0x55 1 = (0xAB, 0xA8) ∧ rotf .rr 0x01 1 = (0x80, 0x81) ∧ rotf .sla 0x01 1 = (0x02, 0x00) ∧
    rotf .sra 0x80 0 = (0xC0, 0x84) ∧ rotf .sll 0x01 1 = (0x03, 0x04) ∧ rotf .srl 0x55 1 = (0x2A, 0x29) := by decide

/-! ## Interrupts, HALT and reset: the scenarios of 95_test_vectors.md part 3, one step each -/

/-- Entry to a handler that pushed PC 0x0100 from SP 0xFF00. -/
def enteredAt (t : State) (pc : Word) (cost : Nat) : Bool :=
  t.pc == pc && t.sp == 0xFEFE && t.peek 0xFEFF == 0x01 && t.peek 0xFEFE == 0x00 && !t.iff1 && !t.halted && t.r == 1
    && t.tStates == cost

/-- S3: IFF1 cleared, IFF2 kept. -/
theorem test_nmi_entry :
    nextHas (step (State.requestNmi { base with iff1 := true, iff2 := true })) (fun t =>
      enteredAt t 0x0066 11 && t.iff2 && !t.nmiPending) = true := by decide

/-- S3: `RETN` restores IFF1. -/
theorem test_retn_restores_iff1 :
    gives { base with pc := 0x0066, sp := 0xFEFE, iff2 := true } [(0xFEFE, 0x00), (0xFEFF, 0x01)] [0xED, 0x45] (fun t =>
      t.pc == 0x0100 && t.sp == 0xFF00 && t.iff1 && t.tStates == 14) = true := by decide

/-- S4: the non-maskable request first, the other stays latched. -/
theorem test_nmi_before_int :
    nextHas (step (State.requestNmi (State.requestInt 0xFF { base with iff1 := true, iff2 := true, im := .im1 }))) (fun t =>
      enteredAt t 0x0066 11 && t.intPending == some 0xFF) = true := by decide

/-- S1: the step after `EI` accepts nothing. -/
theorem test_ei_delay_blocks :
    nextHas (step { base with iff1 := true, iff2 := true, im := .im1, eiDelay := true, intPending := some 0xFF }) (fun t =>
      t.pc == 0x0101 && !t.eiDelay && t.intPending == some 0xFF && t.tStates == 4) = true := by decide

/-- S5: mode 1 wakes a halted core. -/
theorem test_int_mode1_wakes_halt :
    nextHas (step { base with iff1 := true, iff2 := true, im := .im1, halted := true, intPending := some 0x00 })
      (fun t => enteredAt t 0x0038 13 && !t.iff2 && t.intPending == none) = true := by decide

/-- S6: a halted step with interrupts disabled. -/
theorem test_halted_step_keeps_the_request :
    nextHas (step { base with halted := true, intPending := some 0xFF }) (fun t =>
      t.pc == 0x0100 && t.halted && t.r == 1 && t.intPending == some 0xFF && t.tStates == 4 && t.bus.trace == []) = true := by
  decide

/-- S7: mode 0 with `RST 10H`. -/
theorem test_int_mode0_restart :
    nextHas (step { base with iff1 := true, iff2 := true, intPending := some 0xD7 }) (fun t =>
      enteredAt t 0x0010 13) = true := by decide

/-- R158: mode 0 with another byte is refused. -/
theorem test_int_mode0_other_byte :
    (match step { base with iff1 := true, iff2 := true, intPending := some 0xCD } with
      | .refused (.mode0Byte d) => d == 0xCD
      | _ => false) = true := by decide

/-- S8: mode 2, the table entry wraps the address space. -/
theorem test_int_mode2_wraps :
    nextHas (step { withBytes base [(0xFFFF, 0x34), (0x0000, 0x12)] with
        iff1 := true, iff2 := true, im := .im2, i := 0xFF, intPending := some 0xFF }) (fun t =>
      enteredAt t 0x1234 19) = true := by decide

/-- L1.7: the bus accesses of a mode 2 entry, in order. -/
theorem test_int_mode2_bus_order :
    nextHas (step { withBytes base [(0x1004, 0x00), (0x1005, 0x80)] with
        pc := 0x1234, iff1 := true, iff2 := true, im := .im2, i := 0x10, intPending := some 0x04 }) (fun t =>
      t.pc == 0x8000 && t.bus.trace.reverse ==
        [.memWrite 0xFEFF 0x12, .memWrite 0xFEFE 0x34, .memRead 0x1004 0x00, .memRead 0x1005 0x80]) = true := by decide

/-- S9: `LDIR` before its last iteration goes back to its own first byte. -/
theorem test_ldir_iteration :
    gives { base with h := 0x40, d := 0x50, c := 0x03 } [(0x4000, 0x01)] [0xED, 0xB0] (fun t =>
      t.pc == 0x0100 && t.peek 0x5000 == 0x01 && t.c == 0x02 && t.tStates == 21) = true := by decide

/-- S10: `PUSH BC` as the first instruction after reset. -/
theorem test_push_after_reset :
    gives State.reset [] [0xC5] (fun t =>
      t.pc == 0x0001 && t.sp == 0xFFFD && t.r == 1 && t.peek 0xFFFE == 0xFF && t.peek 0xFFFD == 0xFF
        && t.tStates == 11) = true := by decide

/-- L1.8: the reset values, after one `Reset()` and after two, with RESET_REGS of this machine. -/
theorem test_reset_values :
    (let t := State.resetCore { base with
        pc := 0x1234, iff1 := true, im := .im2, halted := true, b := 7, resetRegs := { Config.resetRegs with bc := 0x1234 } }
     t.pc == 0 && t.sp == 0xFFFF && t.af == 0xFFFF && t.bc == 0x1234 && t.ix == 0xFFFF && t.i == 0 && t.r == 0 && !t.iff1
       && t.im == .im0 && !t.halted && t.resetCore == t) = true := by decide

/-- A table word stored where the next step fetches runs there: `LD A,0x5A` as the first instruction after reset. -/
theorem test_with_fetch_word :
    nextHas (step (State.reset.withFetchWord 16 0x3E5A)) (fun t => t.a == 0x5A && t.pc == 0x0002) = true ∧
    decodeTableWord 16 0x3E5A = some (.ldRN .a 0x5A) := by decide

/-! ## A BUS other than the default (R3, R70, R86, R87) -/

/-- ROM from 0x4000 to 0x7FFF, nothing there from 0x8000 to 0xBFFF, a failing address 0xC000. -/
def mapped : State :=
  withMaps (withBytes base [(0x4000, 0x99)])
    [{ mask := 0xFFFF, first := 0x4000, last := 0x7FFF, answer := .rom },
      { mask := 0xC000, first := 0x8000, last := 0x8000, answer := .fixed 0xFF },
      { mask := 0xFFFF, first := 0xC000, last := 0xC000, answer := .fails }]
    [{ mask := 0x00FF, first := 0xFE, last := 0xFE, answer := .fixed 0x42 },
      { mask := 0x00FF, first := 0x10, last := 0x1F, answer := .fails }]

/-- A store to ROM changes nothing and is recorded; a load reads what ROM holds. -/
theorem test_rom :
    gives { mapped with h := 0x40 } [] [0x36, 0xA5] (fun t =>
      t.peek 0x4000 == 0x99 && t.bus.trace.headD (.fetch 0 0) == .memWrite 0x4000 0xA5) = true ∧
    gives { mapped with h := 0x40 } [] [0x7E] (fun t => t.a == 0x99) = true := by decide

/-- Where nothing is, a load reads 0xFF at both ends of the region, and RAM beside it reads as it was stored. -/
theorem test_unmapped :
    gives { mapped with h := 0x80 } [(0x8000, 0x11)] [0x7E] (fun t => t.a == 0xFF) = true ∧
    gives { mapped with h := 0xBF, l := 0xFF } [(0xBFFF, 0x11)] [0x7E] (fun t => t.a == 0xFF) = true ∧
    gives { mapped with h := 0xC0, l := 0x01 } [(0xC001, 0x11)] [0x7E] (fun t => t.a == 0x11) = true := by decide

/-- A port answers by its low eight bits, whatever the high byte (R71). -/
theorem test_port_by_address :
    gives { mapped with a := 0x12 } [] [0xDB, 0xFE] (fun t => t.a == 0x42 && ports t == [.portRead 0x12FE 0x42]) = true ∧
    gives { mapped with a := 0x12 } [] [0xDB, 0xFD] (fun t => t.a == 0xFF) = true := by decide

/-- The answer is `fault(bus)`. -/
def isBusFault (r : Result) : Bool :=
  match r with
  | .fault .bus => true
  | _ => false

/-- An access to a failing address or port ends the step (R86). -/
theorem test_failing_regions :
    isBusFault (step (withCode { mapped with h := 0xC0 } [0x7E])) = true ∧
    isBusFault (step (withCode { mapped with h := 0xC0 } [0x70])) = true ∧
    isBusFault (step (withCode mapped [0xDB, 0x1F])) = true ∧
    isBusFault (step (withCode mapped [0xD3, 0x10])) = true ∧
    isBusFault (step { mapped with pc := 0xC000 }) = true := by decide

/-! ## Witnesses: states and operands that meet the statements' hypotheses -/

/-- An answer of which `nextHas` holds is a next state. -/
theorem next_of_nextHas {r : Result} {p : State → Bool} (h : nextHas r p = true) : ∃ t, r = .next t ∧ p t = true := by
  cases r with
  | next t => exact ⟨t, rfl, h⟩
  | fault x => cases h
  | refused x => cases h

theorem witness_Rot8ResultAndFlags : RotOp.rlc ∈ [RotOp.rlc, .rl, .sla, .sll] ∧ RotOp.srl ∈ [RotOp.rrc, .rr, .sra, .srl] := by decide

theorem witness_Daa8ResultAndFlags : bitOf (0x00 : Byte) 1 = false ∧ bitOf (0x02 : Byte) 1 = true := by decide

/-- The digits at both ends of their range. -/
theorem witness_DaaGivesTheDecimalSumAndDifference : 0 < 10 ∧ 9 < 10 := by decide

theorem witness_CallAndRestartForms :
    (!bitOf base.f 6) = true ∧ bitOf base.f 6 = false ∧ nextHas (exec (.callCcNn .nz 0x2000) base) (fun t => t.pc == 0x2000) = true
      ∧ nextHas (exec (.callCcNn .z 0x2000) base) (fun t => t.pc == 0x0100) = true := by decide

theorem witness_PrefixRowsAndFallback : Instr.halt.isFallbackBase = true := by decide

theorem witness_EveryWellFormedInstructionCompletes : (Instr.jrCcE .nz 0).WellFormed = true := by decide

theorem witness_FlagPreservation :
    (keepsF .nop = true ∧ ∃ t, exec .nop base = .next t) ∧ (∃ t, exec (.popQq .af) base = .next t) ∧
      ∃ t, exec .exAFAF base = .next t :=
  ⟨⟨rfl, _, rfl⟩, ⟨_, rfl⟩, _, rfl⟩

/-- One instruction that changes each piece of state the statement names. -/
theorem witness_OnlyNamedInstructionsWriteSpecialState :
    nextHas (exec .ldIA { base with a := 1 }) (fun t => t.i != base.i) = true ∧
    nextHas (exec .ldRA { base with a := 1 }) (fun t => t.r != base.r) = true ∧
    nextHas (exec (.im2 false) base) (fun t => t.im != base.im) = true ∧
    nextHas (exec (.retn 0) { base with iff2 := true }) (fun t => t.iff1 != base.iff1) = true ∧
    nextHas (exec .ei base) (fun t => t.iff2 != base.iff2 && t.eiDelay != base.eiDelay) = true ∧
    nextHas (exec .halt base) (fun t => t.halted != base.halted) = true ∧
    nextHas (exec .exAFAF { base with a := 1 }) (fun t => t.a' != base.a') = true ∧
    nextHas (exec .exx { base with b := 1 }) (fun t => t.b' != base.b') = true ∧
    nextHas (exec (.jpNn 0) base) (fun t => t.pc != base.pc) = true ∧
    nextHas (exec .inC (withPorts base [1])) (fun t => t.bus.portIn != [1]) = true ∧
    nextHas (exec (.ldAtHLN 1) base) (fun t => t.peek 0 != base.peek 0) = true := by decide

/-- RAM, ROM and nothing, for the clauses about what a store leaves. -/
theorem witness_StoresByte_and_WordStored :
    base.bus.memAnswer 0x0000 = .ram ∧ base.bus.memAnswer 0xFFFF = .ram ∧ mapped.bus.memAnswer 0x4000 ≠ .ram ∧
      (0x0001 : Word) ≠ 0x0000 := by decide

theorem witness_PushAndPopPrimitives :
    base.bus.memAnswer (base.sp - 2) = .ram ∧ base.bus.memAnswer (base.sp - 1) = .ram := by decide

/-- Every kind of answer, at the ends of its region and beside it. -/
theorem witness_BusAgentAnswersByItsMap :
    (let b := mapped.bus
     b.memAnswer 0x3FFF = .ram ∧ b.memAnswer 0x4000 = .rom ∧ b.memAnswer 0x7FFF = .rom ∧ b.memAnswer 0x8000 = .fixed 0xFF ∧
     b.memAnswer 0xBFFF = .fixed 0xFF ∧ b.memAnswer 0xC000 = .fails ∧ b.memAnswer 0xC001 = .ram ∧
     b.portAnswer 0x12FE = .fixed 0x42 ∧ b.portAnswer 0x1210 = .fails ∧ b.portAnswer 0x1220 = .responses ∧
     b.portIn = [] ∧ (withPorts mapped [1, 2]).bus.portIn = 1 :: [2]) ∧
    Bus.flat.memMap = [] ∧ Bus.flat.portMap = [] ∧ { Bus.flat with failed := true }.failed = true := by decide

/-- The functions of BUS: at every own state they answer or fail, so one of the two clauses applies. -/
theorem witness_BusAgentAnswersByItsMap_functions (q : List Nat) (a : Word) :
    (let b := { Bus.flat with memMap := [{ mask := 0, first := 0, last := 0, answer := .functions }], own := q }
     b.memAnswer a = .functions) ∧
    (Config.busReadMemory q a = none ∨ ∃ w q', Config.busReadMemory q a = some (w, q')) := by
  refine ⟨by simp [Bus.memAnswer, answerAt, Region.holds], ?_⟩
  cases Config.busReadMemory q a with
  | none => exact .inl rfl
  | some r => exact .inr ⟨r.1, r.2, rfl⟩

theorem witness_NoAcceptance : NoAcceptance base ∧ base.halted = false ∧ base.bus.failed = false ∧ base.bus.failsAt = none :=
  ⟨⟨rfl, .inl rfl⟩, rfl, rfl, rfl⟩

/-- A bus agent with empty maps on which no access fails. -/
theorem quiet_of_empty_maps {b : Bus} (hf : b.failed = false) (hn : b.failsAt = none) (hm : b.memMap = [])
    (hp : b.portMap = []) : Quiet b := by
  have hmem : ∀ a, b.memAnswer a = .ram := fun a => by simp [Bus.memAnswer, hm, answerAt]
  have hport : ∀ p, b.portAnswer p = .responses := fun p => by simp [Bus.portAnswer, hp, answerAt]
  exact ⟨hf, hn, fun a => by simp [hmem], fun p => by simp [hport], fun a h => by simp [hmem] at h,
    fun p h => by simp [hport] at h⟩

/-- With empty maps all of memory is plain. -/
theorem plain_of_empty_map {b : Bus} (hm : b.memMap = []) : PlainMemory b := fun a => by
  simp [Bus.memAnswer, hm, answerAt]

theorem witness_Quiet : Quiet base.bus := quiet_of_empty_maps rfl rfl rfl rfl

/-- Two dropped prefixes before a row with a lead-in byte, no prefix before a BASE row, and `LD R,A` behind a dropped
prefix: each meets all the hypotheses. -/
theorem witness_RefreshCounterAdvance :
    (let s := withCode base [0xDD, 0xFD, 0xDD, 0x21, 0x34, 0x12]
     NoAcceptance s ∧ s.halted = false ∧ (∀ x ∈ [(0xDD : Byte), 0xFD], x = 0xDD ∨ x = 0xFD) ∧
     [(0xDD : Byte), 0x21, 0x34, 0x12].head? ∈ [some 0xDD, some 0xFD, some 0xED] ∧
     (fetched 6 s.bus s.pc).1 = [0xDD, 0xFD] ++ [0xDD, 0x21, 0x34, 0x12] ∧
     decode [0xDD, 0x21, 0x34, 0x12] = .ok (.ldIiNn .ix 0x1234, []) ∧ isLeadIn (.ldIiNn .ix 0x1234) = false ∧
     nextHas (step s) (fun t => t.r == 4) = true) ∧
    (let s := { withCode base [0x3E, 0x5A] with r := 0xFF }
     (fetched 2 s.bus s.pc).1 = [] ++ [0x3E, 0x5A] ∧ decode [0x3E, 0x5A] = .ok (.ldRN .a 0x5A, []) ∧
     nextHas (step s) (fun t => t.r == 0x80) = true) ∧
    (let s := { withCode base [0xDD, 0xED, 0x4F] with a := 0x77 }
     (fetched 3 s.bus s.pc).1 = [0xDD] ++ [0xED, 0x4F] ∧ decode [0xED, 0x4F] = .ok (.ldRA, []) ∧
     nextHas (step s) (fun t => t.r == 0x77) = true) :=
  ⟨⟨⟨rfl, .inl rfl⟩, rfl, by decide, by decide, rfl, rfl, rfl, by decide⟩, ⟨rfl, rfl, by decide⟩, rfl, rfl, by decide⟩

theorem witness_StepRunsTheDecodedInstruction :
    NoAcceptance (withCode base [0x41]) ∧ (withCode base [0x41]).halted = false ∧ (withCode base [0x41]).bus.failed = false ∧
      decode (fetched 1 (withCode base [0x41]).bus (withCode base [0x41]).pc).1 = .ok (.ldRR .b .c, []) ∧
      isLeadIn (.ldRR .b .c) = false :=
  ⟨⟨rfl, .inl rfl⟩, rfl, rfl, rfl, rfl⟩

/-- A step that leaves a state, and one whose access fails: the two clauses of `StepsTo`. -/
theorem witness_StepsTo :
    ¬FailedIn base { base with pc := 0x0101 } ∧
    FailedIn (failingAt base 0) { base with bus := (base.bus.fetch base.pc).2 } :=
  ⟨(by rintro (h | ⟨n, h, -⟩) <;> cases h), .inr ⟨0, rfl, Nat.le_refl 0, by decide⟩⟩

/-- The first and the third byte fetched. -/
theorem fetched_first (n : Nat) (b : Bus) (a : Word) : (b.fetch a).1 ∈ (fetched (n + 1) b a).1 := List.mem_cons_self

theorem fetched_later {n : Nat} {b : Bus} {a : Word} {v : Byte} (h : v ∈ (fetched n (b.fetch a).2 (a + 1)).1) :
    v ∈ (fetched (n + 1) b a).1 := List.mem_cons_of_mem _ h

theorem witness_DroppedPrefixCostsFourAndOneRefresh :
    let s := withCode base [0xDD, 0xFD, 0x21]
    (NoAcceptance s ∧ s.halted = false ∧ s.bus.failed = false) ∧
    ((s.bus.fetch s.pc).1 = 0xDD ∧ ((s.bus.fetch s.pc).2.fetch (s.pc + 1)).1 = 0xFD) ∧ Quiet s.bus ∧ ¬Endless s ∧
    nextHas (step s) (fun t => t.tStates == 18) = true := by
  refine ⟨⟨⟨rfl, .inl rfl⟩, rfl, rfl⟩, ⟨rfl, rfl⟩, quiet_of_empty_maps rfl rfl rfl rfl, ?_, by decide⟩
  intro h
  have := h 0x21 (fetched_later (fetched_later (fetched_first 65533 _ _)))
  revert this
  decide

/-- Every even address holds 0xDD, every odd one 0xFD. -/
def fullOfPrefixes : Memory := (List.range 65536).map fun k => (k, if k % 2 = 0 then 0xDD else 0xFD)

theorem read_map (g : Nat → Byte) (l : List Nat) (a : Word) (h : a.toNat ∈ l) :
    Memory.read (l.map fun k => (k, g k)) a = g a.toNat := by
  induction l with
  | nil => cases h
  | cons k rest ih =>
    by_cases hk : k = a.toNat
    · simp [Memory.read, hk]
    · have : a.toNat ∈ rest := by
        rcases List.mem_cons.mp h with h | h
        · exact absurd h.symm hk
        · exact h
      simpa [Memory.read, hk] using ih this

theorem read_fullOfPrefixes (a : Word) : Memory.read fullOfPrefixes a = 0xDD ∨ Memory.read fullOfPrefixes a = 0xFD := by
  have h : Memory.read fullOfPrefixes a = if a.toNat % 2 = 0 then 0xDD else 0xFD :=
    read_map _ _ _ (List.mem_range.mpr a.isLt)
  rw [h]
  split
  · exact .inl rfl
  · exact .inr rfl

/-- The baseline over any memory is quiet, plain, and accepts no interrupt. -/
theorem base_with_mem (m : Memory) :
    ∃ s : State, NoAcceptance s ∧ s.halted = false ∧ Quiet s.bus ∧ PlainMemory s.bus ∧ ∀ a, s.peek a = Memory.read m a :=
  ⟨{ base with bus := { Bus.flat with mem := m } }, ⟨rfl, .inl rfl⟩, rfl, quiet_of_empty_maps rfl rfl rfl rfl,
    plain_of_empty_map rfl, fun _ => rfl⟩

/-- Where memory is plain and every byte a prefix, so is every byte fetched. -/
theorem endless_of_plain {s : State} (hp : PlainMemory s.bus) (h : ∀ a, s.peek a = 0xDD ∨ s.peek a = 0xFD) : Endless s := by
  have key : ∀ (n : Nat) (b : Bus) (a : Word), PlainMemory b → (∀ x, b.cell x = 0xDD ∨ b.cell x = 0xFD) →
      ∀ v ∈ (fetched n b a).1, v = 0xDD ∨ v = 0xFD := by
    intro n
    induction n with
    | zero => intro b a _ _ v hv; cases hv
    | succ k ih =>
      intro b a hp h v hv
      rcases List.mem_cons.mp hv with rfl | hv
      · have hm : (b.memAnswer a).isMemory = true := by rcases hp a with e | e <;> rw [e] <;> rfl
        rw [Bus.fetch_of_isMemory b a hm]
        exact h a
      · exact ih _ _ (fun x => by simpa using hp x) (fun x => by simpa using h x) v hv
  exact key 65536 s.bus s.pc hp h

/-- A state that meets the hypotheses of both clauses. -/
theorem witness_EndlessPrefixRunIsStuck :
    ∃ s : State, NoAcceptance s ∧ s.halted = false ∧ PlainMemory s.bus ∧ Quiet s.bus ∧
      (∀ a, s.peek a = 0xDD ∨ s.peek a = 0xFD) ∧ Endless s := by
  obtain ⟨s, h1, h2, h3, h4, h5⟩ := base_with_mem fullOfPrefixes
  have h : ∀ a, s.peek a = 0xDD ∨ s.peek a = 0xFD := fun a => by rw [h5]; exact read_fullOfPrefixes a
  exact ⟨s, h1, h2, h4, h3, h, endless_of_plain h4 h⟩

theorem witness_NonMaskableInterruptEntry :
    base.requestNmi.nmiPending = true ∧ base.requestNmi.bus.failed = false ∧ Quiet base.requestNmi.bus :=
  ⟨rfl, rfl, witness_Quiet⟩

/-- The four clauses: a restart byte at each end of its range and a byte that is none in mode 0, mode 1, mode 2. -/
theorem witness_MaskableInterruptEntryByMode :
    (let s := { base with iff1 := true, intPending := some 0xC7 }
     s.nmiPending = false ∧ s.intPending = some 0xC7 ∧ s.iff1 = true ∧ s.eiDelay = false ∧ s.bus.failed = false ∧
       s.im = .im0) ∧
    ((0xC7 : Byte).toNat % 8 = 7 ∧ 0xC0 ≤ (0xC7 : Byte).toNat) ∧ ((0xFF : Byte).toNat % 8 = 7 ∧ 0xC0 ≤ (0xFF : Byte).toNat) ∧
    ¬((0xBF : Byte).toNat % 8 = 7 ∧ 0xC0 ≤ (0xBF : Byte).toNat) ∧
    { base with im := .im1 }.im = .im1 ∧ { base with im := .im2 }.im = .im2 := by decide

theorem witness_BlockedMaskableRequestStaysLatched :
    (base.nmiPending = false ∧ base.iff1 = false) ∧
    ({ base with iff1 := true, eiDelay := true }.nmiPending = false ∧
      { base with iff1 := true, eiDelay := true }.eiDelay = true) := by decide

theorem witness_HaltedStep :
    (NoAcceptance (withCode base [0x76]) ∧ (withCode base [0x76]).halted = false ∧
      (withCode base [0x76]).bus.failed = false ∧ ((withCode base [0x76]).bus.fetch (withCode base [0x76]).pc).1 = 0x76) ∧
    (NoAcceptance { base with halted := true } ∧ { base with halted := true }.halted = true ∧ base.bus.failed = false) ∧
    (¬NoAcceptance (State.requestNmi { base with halted := true }) ∧
      nextHas (step (State.requestNmi { base with halted := true })) (fun t => !t.halted) = true) :=
  ⟨⟨⟨rfl, .inl rfl⟩, rfl, rfl, rfl⟩, ⟨⟨rfl, .inl rfl⟩, rfl, rfl⟩, fun h => by simpa [State.requestNmi] using h.1, by decide⟩

/-- A run with a step and two resets. -/
theorem witness_ParametersAreFixedAlongEveryRun :
    ∃ t, Reaches (State.powerOn Config.resetRegs mapped.bus) t ∧ t.resetCore.pc = 0 := by
  obtain ⟨u, hu, -⟩ := next_of_nextHas
    (show nextHas (step (State.powerOn Config.resetRegs mapped.bus)) (fun t => t.pc == 1) = true by decide)
  exact ⟨_, .event .reset (.event .reset (.step .start hu)), rfl⟩

/-- A step that makes three accesses after one on record: both clauses at the ends of their ranges. -/
theorem witness_BusFailureEndsTheStep :
    (let s := { withCode base [0x36, 0xA5] with h := 0x40 }
     let s := { s with bus := { s.bus with trace := [.portWrite 0 0] } }
     s.bus.failsAt = none ∧ nextHas (step s) (fun t => t.bus.trace.length == 4) = true ∧ s.bus.trace.length = 1 ∧
     isBusFault (step (failingAt s 1)) = true ∧ isBusFault (step (failingAt s 3)) = true ∧
     nextHas (step (failingAt s 0)) (fun t => t.bus.failsAt == some 0) = true ∧
     nextHas (step (failingAt s 4)) (fun t => t.bus.failsAt == some 4) = true) ∧
    { base with bus := { base.bus with failed := true } }.bus.failed = true := by decide

/-- A state for each side of the four answers: an endless run, a byte mode 0 refuses and one it accepts. -/
theorem witness_StepStopsOnlyWhereTheSpecSays :
    (∃ s : State, Quiet s.bus ∧ PlainMemory s.bus ∧ NoAcceptance s ∧ s.halted = false ∧ Endless s ∧
      ∀ a, s.peek a = 0xDD ∨ s.peek a = 0xFD) ∧
    (Quiet base.bus ∧ ¬Endless base) ∧ (0xCD : Byte) &&& 0xC7 ≠ 0xC7 ∧ (0xC7 : Byte) &&& 0xC7 = 0xC7 := by
  obtain ⟨s, h1, h2, h3, h4, h5, h6⟩ := witness_EndlessPrefixRunIsStuck
  refine ⟨⟨s, h4, h3, h1, h2, h6, h5⟩, ⟨witness_Quiet, fun h => ?_⟩, by decide⟩
  have := h 0x00 (fetched_first 65535 _ _)
  revert this
  decide

theorem witness_DecodeOfEncode :
    (Instr.nop.WellFormed = true ∧ isLeadIn .nop = false) ∧ (Instr.prefixCB.WellFormed = true ∧ isLeadIn .prefixCB = true) := by
  decide

theorem witness_StepKeepsMemoryCanonical :
    (withCode base [0x70]).Inv ∧ ∃ t, step (withCode base [0x70]) = .next t ∧ (t.bus.mem == (withCode base [0x70]).bus.mem) = true :=
  ⟨⟨by show Memory.wf _ = true; decide, rfl⟩, next_of_nextHas (by decide)⟩

end Sys2Proof.Tests
end

section
/-!
SUPPORT. What each answer of the bus agent's map makes of each access (20_memory.md R70 to R73, R77, R86, R87).
-/

namespace Sys2Proof.Machine

open Sys2Proof.Claims

/-! ## The map -/

/-- A region holds an address whose masked bits lie from its first to its last one. -/
theorem Region.holds_iff {α : Type} (r : Region α) (a : Word) :
    r.holds a = true ↔ r.first.toNat ≤ (a &&& r.mask).toNat ∧ (a &&& r.mask).toNat ≤ r.last.toNat := by
  simp [Region.holds, BitVec.le_def]

theorem answerAt_cons {α : Type} (otherwise : α) (r : Region α) (rest : List (Region α)) (a : Word) :
    answerAt otherwise (r :: rest) a =
      if r.first.toNat ≤ (a &&& r.mask).toNat ∧ (a &&& r.mask).toNat ≤ r.last.toNat then r.answer
      else answerAt otherwise rest a := by
  simp only [answerAt, Region.holds_iff]

/-! ## Reads of memory -/

section
variable {b : Bus} {a : Word} {q : List Nat} {v w : Byte}

theorem Bus.read_of_fixed (h : b.memAnswer a = .fixed w) :
    b.read a = (w, { b with trace := .memRead a w :: b.trace }) := by
  simp [Bus.read, Bus.answerRead, Bus.finishRead, h]

theorem Bus.read_of_functions (h : b.memAnswer a = .functions) (hq : Config.busReadMemory b.own a = some (w, q)) :
    b.read a = (w, { b with own := q, trace := .memRead a w :: b.trace }) := by
  simp [Bus.read, Bus.answerRead, Bus.finishRead, h, hq]

/-- The reads that fail: where the map says so, or a function of BUS does (R86). -/
theorem Bus.answerRead_eq_none :
    b.answerRead a = none ↔
      b.memAnswer a = .fails ∨ b.memAnswer a = .functions ∧ Config.busReadMemory b.own a = none := by
  unfold Bus.answerRead
  split <;> simp [*]

theorem Bus.failed_read
    (h : b.memAnswer a = .fails ∨ b.memAnswer a = .functions ∧ Config.busReadMemory b.own a = none) :
    (b.read a).2.failed = true := by
  rw [Bus.read, Bus.answerRead_eq_none.mpr h, Bus.finishRead]

/-- A fetch and a read of the same address answer the same byte, and differ in what they record (R73, R77). -/
theorem Bus.fetch_eq_read (b : Bus) (a : Word) :
    b.fetch a = ((b.read a).1, { (b.read a).2 with trace := .fetch a (b.read a).1 :: b.trace }) := by
  unfold Bus.fetch Bus.read
  cases h : b.answerRead a with
  | none => rfl
  | some x =>
    obtain ⟨mem, portIn, own, hx, -⟩ := b.answerRead_own a x h
    simp [Bus.finishRead, hx]

/-! ## Writes of memory -/

theorem Bus.write_of_rom_or_fixed (h : b.memAnswer a = .rom ∨ b.memAnswer a = .fixed w) :
    b.write a v = { b with trace := .memWrite a v :: b.trace } := by
  obtain h | h := h <;> simp [Bus.write, Bus.answerWrite, Bus.finishWrite, h]

theorem Bus.write_of_functions (h : b.memAnswer a = .functions) (hq : Config.busWriteMemory b.own a v = some q) :
    b.write a v = { b with own := q, trace := .memWrite a v :: b.trace } := by
  simp [Bus.write, Bus.answerWrite, Bus.finishWrite, h, hq]

theorem Bus.answerWrite_eq_none :
    b.answerWrite a v = none ↔
      b.memAnswer a = .fails ∨ b.memAnswer a = .functions ∧ Config.busWriteMemory b.own a v = none := by
  unfold Bus.answerWrite
  split <;> simp [*]

theorem Bus.failed_write
    (h : b.memAnswer a = .fails ∨ b.memAnswer a = .functions ∧ Config.busWriteMemory b.own a v = none) :
    (b.write a v).failed = true := by
  rw [Bus.write, Bus.answerWrite_eq_none.mpr h, Bus.finishWrite]

end

/-! ## Ports -/

section
variable {b : Bus} {p : Word} {q : List Nat} {v w : Byte}

theorem Bus.readPort_of_responses (h : b.portAnswer p = .responses) :
    b.readPort p = (b.portIn.headD 0xFF,
      { b with portIn := b.portIn.tail, trace := .portRead p (b.portIn.headD 0xFF) :: b.trace }) := by
  simp [Bus.readPort, Bus.answerPortRead, Bus.finishRead, h, Config.idlePortByte]

theorem Bus.readPort_of_fixed (h : b.portAnswer p = .fixed w) :
    b.readPort p = (w, { b with trace := .portRead p w :: b.trace }) := by
  simp [Bus.readPort, Bus.answerPortRead, Bus.finishRead, h]

theorem Bus.readPort_of_functions (h : b.portAnswer p = .functions) (hq : Config.busReadPort b.own p = some (w, q)) :
    b.readPort p = (w, { b with own := q, trace := .portRead p w :: b.trace }) := by
  simp [Bus.readPort, Bus.answerPortRead, Bus.finishRead, h, hq]

theorem Bus.answerPortRead_eq_none :
    b.answerPortRead p = none ↔
      b.portAnswer p = .fails ∨ b.portAnswer p = .functions ∧ Config.busReadPort b.own p = none := by
  unfold Bus.answerPortRead
  split <;> simp [*]

theorem Bus.failed_readPort
    (h : b.portAnswer p = .fails ∨ b.portAnswer p = .functions ∧ Config.busReadPort b.own p = none) :
    (b.readPort p).2.failed = true := by
  rw [Bus.readPort, Bus.answerPortRead_eq_none.mpr h, Bus.finishRead]

theorem Bus.writePort_of_responses_or_fixed (h : b.portAnswer p = .responses ∨ b.portAnswer p = .fixed w) :
    b.writePort p v = { b with trace := .portWrite p v :: b.trace } := by
  obtain h | h := h <;> simp [Bus.writePort, Bus.answerPortWrite, Bus.finishWrite, h]

theorem Bus.writePort_of_functions (h : b.portAnswer p = .functions) (hq : Config.busWritePort b.own p v = some q) :
    b.writePort p v = { b with own := q, trace := .portWrite p v :: b.trace } := by
  simp [Bus.writePort, Bus.answerPortWrite, Bus.finishWrite, h, hq]

theorem Bus.answerPortWrite_eq_none :
    b.answerPortWrite p v = none ↔
      b.portAnswer p = .fails ∨ b.portAnswer p = .functions ∧ Config.busWritePort b.own p v = none := by
  unfold Bus.answerPortWrite
  split <;> simp [*]

theorem Bus.failed_writePort
    (h : b.portAnswer p = .fails ∨ b.portAnswer p = .functions ∧ Config.busWritePort b.own p v = none) :
    (b.writePort p v).failed = true := by
  rw [Bus.writePort, Bus.answerPortWrite_eq_none.mpr h, Bus.finishWrite]

end

/-! ## The default platform (R87, D5) -/

@[simp] theorem Bus.memAnswer_flat (a : Word) : Bus.flat.memAnswer a = .ram := rfl

@[simp] theorem Bus.portAnswer_flat (p : Word) : Bus.flat.portAnswer p = .responses := rfl

theorem quiet_flat : Quiet Bus.flat := by
  refine ⟨rfl, rfl, ?_, ?_, ?_, ?_⟩ <;> simp

/-! ## The statement about the bus agent -/

/-- Settles O43: one law above for each access and each answer of the map. -/
theorem busAgentAnswersByItsMap : Obligations.BusAgentAnswersByItsMap := by
  refine ⟨fun b a => ?_, fun b a v w => ?_, fun b p v w => ?_, fun b a v h => ?_, fun a => ?_⟩
  · refine ⟨fun h => ?_, fun h => ?_, fun r rest h => ?_, fun r rest h => ?_⟩
    · rw [Bus.memAnswer, h, answerAt]
    · rw [Bus.portAnswer, h, answerAt]
    · rw [Bus.memAnswer, h, answerAt_cons, Bus.memAnswer]
    · rw [Bus.portAnswer, h, answerAt_cons, Bus.portAnswer]
  · refine ⟨fun h => ?_, Bus.read_of_fixed, fun _ => Bus.read_of_functions, Bus.failed_read, ?_, ?_, fun h => ?_,
      Bus.write_of_rom_or_fixed, fun _ => Bus.write_of_functions, Bus.failed_write⟩
    · exact b.read_of_isMemory a (by obtain h | h := h <;> rw [h] <;> rfl)
    · rw [Bus.fetch_eq_read]
    · rw [Bus.fetch_eq_read]
    · exact ⟨b.cell_write_same a v h, fun x => b.cell_write_other a x v, by rw [b.write_of_ram a v h]⟩
  · refine ⟨fun h hw => ?_, fun rest h hw => ?_, Bus.readPort_of_fixed, fun _ => Bus.readPort_of_functions,
      Bus.failed_readPort, Bus.writePort_of_responses_or_fixed, fun _ => Bus.writePort_of_functions,
      Bus.failed_writePort⟩
    · rw [Bus.readPort_of_responses h, hw]; rfl
    · rw [Bus.readPort_of_responses h, hw]; rfl
  · exact ⟨(b.extends_read a).failed h, (b.extends_fetch a).failed h, (b.extends_write a v).failed h,
      (b.extends_readPort a).failed h, (b.extends_writePort a v).failed h⟩
  · exact ⟨rfl, rfl, rfl, rfl, quiet_flat⟩

end Sys2Proof.Machine
end

section
/-!
SUPPORT. What nothing changes along a run: RESET_REGS and the fixed part of BUS (00_scope.md R3; 10_state.md R40;
70_reset_and_hazards.md R201, R202). `State.Extends` says it; every operation of the core keeps it, so every
instruction, every step and every host event does.
-/

namespace Sys2Proof.Machine

/-! ## A later bus agent -/

/-- `b'` has the fixed part of `b` and, after its record, some number of accesses more. -/
def Bus.Later (b b' : Bus) : Prop := ∃ n, b.Extends b' n

theorem Bus.Later.refl (b : Bus) : b.Later b := ⟨0, .refl b⟩

theorem Bus.Later.trans {b c d : Bus} (h : b.Later c) (k : c.Later d) : b.Later d := by
  obtain ⟨n, hn⟩ := h
  obtain ⟨m, hm⟩ := k
  exact ⟨n + m, hn.trans hm⟩

section
variable {b c : Bus} (h : b.Later c)
include h

theorem Bus.Later.fetch (a : Word) : b.Later (c.fetch a).2 := h.trans ⟨1, c.extends_fetch a⟩

theorem Bus.Later.read (a : Word) : b.Later (c.read a).2 := h.trans ⟨1, c.extends_read a⟩

theorem Bus.Later.write (a : Word) (v : Byte) : b.Later (c.write a v) := h.trans ⟨1, c.extends_write a v⟩

theorem Bus.Later.readPort (p : Word) : b.Later (c.readPort p).2 := h.trans ⟨1, c.extends_readPort p⟩

theorem Bus.Later.writePort (p : Word) (v : Byte) : b.Later (c.writePort p v) :=
  h.trans ⟨1, c.extends_writePort p v⟩

end

/-! ## A later state -/

/-- `t` has the RESET_REGS of `s` and a later bus agent. -/
structure State.Extends (s t : State) : Prop where
  resetRegs : t.resetRegs = s.resetRegs
  bus : s.bus.Later t.bus

@[simp] theorem State.Extends.refl (s : State) : s.Extends s := ⟨rfl, .refl _⟩

theorem State.Extends.trans {s t u : State} (h : s.Extends t) (k : t.Extends u) : s.Extends u :=
  ⟨k.resetRegs.trans h.resetRegs, h.bus.trans k.bus⟩

/-! ### Registers, the clock and the request latches are free to change -/

section
variable {s t u : State}

theorem State.extends_congr (hr : u.resetRegs = t.resetRegs) (hb : u.bus = t.bus) : s.Extends u ↔ s.Extends t :=
  ⟨fun h => ⟨hr ▸ h.resetRegs, hb ▸ h.bus⟩, fun h => ⟨hr ▸ h.resetRegs, hb ▸ h.bus⟩⟩

theorem State.Extends.of_same (h : s.Extends t) (hr : u.resetRegs = t.resetRegs) (hb : u.bus = t.bus) :
    s.Extends u := (State.extends_congr hr hb).mpr h

@[simp] theorem State.extends_tick {n : Nat} : s.Extends (t.tick n) ↔ s.Extends t := extends_congr rfl rfl
@[simp] theorem State.extends_setF {f : Byte} : s.Extends (t.setF f) ↔ s.Extends t := extends_congr rfl rfl
@[simp] theorem State.extends_putAF {r : Byte × Byte} : s.Extends (t.putAF r) ↔ s.Extends t := extends_congr rfl rfl
@[simp] theorem State.extends_setDE {v : Word} : s.Extends (t.setDE v) ↔ s.Extends t := extends_congr rfl rfl
@[simp] theorem State.extends_setHL {v : Word} : s.Extends (t.setHL v) ↔ s.Extends t := extends_congr rfl rfl
@[simp] theorem State.extends_jump {v : Word} : s.Extends (t.jump v) ↔ s.Extends t := extends_congr rfl rfl
@[simp] theorem State.extends_jumpRel {e : Byte} : s.Extends (t.jumpRel e) ↔ s.Extends t := extends_jump

@[simp] theorem State.extends_setIndex {ii : IndexReg} {v : Word} : s.Extends (t.setIndex ii v) ↔ s.Extends t :=
  extends_congr (by simp) (by simp)

@[simp] theorem State.extends_setR {k : Reg8} {v : Byte} : s.Extends (t.setR k v) ↔ s.Extends t :=
  extends_congr (by simp) (by simp)

@[simp] theorem State.extends_setP {ii : IndexReg} {k : PReg} {v : Byte} : s.Extends (t.setP ii k v) ↔ s.Extends t :=
  extends_congr (by simp) (by simp)

@[simp] theorem State.extends_setRP {p : RP} {v : Word} : s.Extends (t.setRP p v) ↔ s.Extends t :=
  extends_congr (by simp) (by simp)

@[simp] theorem State.extends_setRP2 {p : RP2} {v : Word} : s.Extends (t.setRP2 p v) ↔ s.Extends t :=
  extends_congr (by simp) (by simp)

@[simp] theorem State.extends_addA {v : Byte} : s.Extends (t.addA v) ↔ s.Extends t := extends_putAF
@[simp] theorem State.extends_adcA {v : Byte} : s.Extends (t.adcA v) ↔ s.Extends t := extends_putAF
@[simp] theorem State.extends_subA {v : Byte} : s.Extends (t.subA v) ↔ s.Extends t := extends_putAF
@[simp] theorem State.extends_sbcA {v : Byte} : s.Extends (t.sbcA v) ↔ s.Extends t := extends_putAF
@[simp] theorem State.extends_andA {v : Byte} : s.Extends (t.andA v) ↔ s.Extends t := extends_putAF
@[simp] theorem State.extends_xorA {v : Byte} : s.Extends (t.xorA v) ↔ s.Extends t := extends_putAF
@[simp] theorem State.extends_orA {v : Byte} : s.Extends (t.orA v) ↔ s.Extends t := extends_putAF
@[simp] theorem State.extends_cpA {v : Byte} : s.Extends (t.cpA v) ↔ s.Extends t := extends_setF

@[simp] theorem State.extends_modifyR {k : Reg8} {g : Byte → Byte → Byte × Byte} :
    s.Extends (t.modifyR k g) ↔ s.Extends t := extends_setR.trans extends_setF

@[simp] theorem State.extends_modifyP {ii : IndexReg} {k : PReg} {g : Byte → Byte → Byte × Byte} :
    s.Extends (t.modifyP ii k g) ↔ s.Extends t := extends_setP.trans extends_setF

@[simp] theorem State.extends_repeatIf {again : Bool} : s.Extends (t.repeatIf again) ↔ s.Extends t := by
  rw [State.repeatIf_eq]; exact extends_congr rfl rfl

end

section
variable {s t u : State} (h : s.Extends t)
include h

@[simp] theorem State.Extends.ite {p : Prop} [Decidable p] (k : s.Extends u) : s.Extends (if p then t else u) := by
  split
  · exact h
  · exact k

/-! ### Memory and ports -/

@[simp] theorem State.Extends.fetchByte : s.Extends t.fetchByte.2 := ⟨h.resetRegs, h.bus.fetch _⟩
@[simp] theorem State.Extends.fetchM1 : s.Extends t.fetchM1.2 := ⟨h.resetRegs, h.bus.fetch _⟩
@[simp] theorem State.Extends.memRead (a : Word) : s.Extends (t.memRead a).2 := ⟨h.resetRegs, h.bus.read a⟩
@[simp] theorem State.Extends.memRead16 (a : Word) : s.Extends (t.memRead16 a).2 := (h.memRead a).memRead _
@[simp] theorem State.Extends.memWrite (a : Word) (v : Byte) : s.Extends (t.memWrite a v) :=
  ⟨h.resetRegs, h.bus.write a v⟩
@[simp] theorem State.Extends.memWrite16 (a v : Word) : s.Extends (t.memWrite16 a v) := (h.memWrite _ _).memWrite _ _
@[simp] theorem State.Extends.portRead (p : Word) : s.Extends (t.portRead p).2 := ⟨h.resetRegs, h.bus.readPort p⟩
@[simp] theorem State.Extends.portWrite (p : Word) (v : Byte) : s.Extends (t.portWrite p v) :=
  ⟨h.resetRegs, h.bus.writePort p v⟩

@[simp] theorem State.Extends.modifyAt (a : Word) (g : Byte → Byte → Byte × Byte) :
    s.Extends (t.modifyAt a g).2 := by
  rw [State.modifyAt_eq]; exact ⟨h.resetRegs, (h.bus.read _).write _ _⟩

/-! ### The stack and the operations of the families -/

@[simp] theorem State.Extends.push16 (v : Word) : s.Extends (t.push16 v) := by
  rw [State.push16_eq]; exact ⟨h.resetRegs, (h.bus.write _ _).write _ _⟩

@[simp] theorem State.Extends.pop16 : s.Extends t.pop16.2 := by
  rw [State.pop16_eq]; exact ⟨h.resetRegs, (h.bus.read _).read _⟩

@[simp] theorem State.Extends.call (v : Word) : s.Extends (t.call v) := extends_jump.mpr (h.push16 _)
@[simp] theorem State.Extends.popPC : s.Extends t.popPC := extends_jump.mpr h.pop16
@[simp] theorem State.Extends.exchangeTop (v : Word) : s.Extends (t.exchangeTop v).2 :=
  ((h.memRead16 _).memWrite _ _).memWrite _ _

@[simp] theorem State.Extends.returnFromHandler : s.Extends t.returnFromHandler := by
  rw [State.returnFromHandler_eq]; exact ⟨h.resetRegs, (h.bus.read _).read _⟩

@[simp] theorem State.Extends.enterHandler : s.Extends t.enterHandler := by
  rw [State.enterHandler_eq]; exact ⟨h.resetRegs, (h.bus.write _ _).write _ _⟩

@[simp] theorem State.Extends.blockMove (step : Word) : s.Extends (t.blockMove step) := by
  rw [State.blockMove_eq]; exact ⟨h.resetRegs, (h.bus.read _).write _ _⟩

@[simp] theorem State.Extends.blockCompare (step : Word) : s.Extends (t.blockCompare step).2 := by
  rw [State.blockCompare_eq]; exact ⟨h.resetRegs, h.bus.read _⟩

@[simp] theorem State.Extends.blockIn (step : Word) : s.Extends (t.blockIn step) := by
  rw [State.blockIn_eq]; exact ⟨h.resetRegs, (h.bus.readPort _).write _ _⟩

@[simp] theorem State.Extends.blockOut (step : Word) : s.Extends (t.blockOut step) := by
  rw [State.blockOut_eq]; exact ⟨h.resetRegs, (h.bus.read _).writePort _ _⟩

@[simp] theorem State.Extends.fetchBytes (n : Nat) : s.Extends (t.fetchBytes n).2 := by
  induction n generalizing t with
  | zero => exact h
  | succ k ih => exact ih h.fetchByte

@[simp] theorem State.Extends.fetchOperands (opcode : List Byte) : s.Extends (t.fetchOperands opcode).2 :=
  h.fetchBytes _

end

/-! ## Instructions -/

/-- Behind an ignored prefix a BASE instruction has its own meaning (R113, R531): each constructor has the same arm in
both, or is no such instruction. -/
theorem execFallbackBase_eq_exec {base : Instr} (hb : base.isFallbackBase = true) (s : State) :
    execFallbackBase base s = exec base s := by
  cases base <;> first | rfl | cases hb

/-- An ignored prefix that goes on costs 4 T-states before its BASE instruction (R113, R531). -/
theorem exec_xyFallback_next {ii : IndexReg} {base : Instr} {s t : State} (h : exec (.xyFallback ii base) s = .next t) :
    exec base (s.tick 4) = .next t := by
  change execXyFallback ii base s = .next t at h
  unfold execXyFallback at h
  split at h
  · rwa [execFallbackBase_eq_exec ‹_›] at h
  · cases h

/-- Every instruction: its meaning is a chain of the operations above, whose lemmas `simp` follows backwards; the named
cases write registers directly, and a fallback goes to its BASE instruction. -/
theorem exec_extends {i : Instr} {s t : State} (h : exec i s = .next t) : s.Extends t := by
  induction i generalizing s with
  | xyFallback ii base ih => exact (State.extends_tick.mpr (.refl s)).trans (ih (exec_xyFallback_next h))
  | ldIA | ldRA | ldAI | ldAR | ldSPHL | ldSPIi | exAFAF | exx | halt | di | ei | im0 | im1 | im2 =>
    cases h
    exact ⟨rfl, .refl _⟩
  | bitAtHL b =>
    cases h
    exact ⟨rfl, (Bus.Later.refl _).read _⟩
  | djnzE e =>
    cases h
    have hb : s.Extends { s with b := s.b - 1 } := (State.Extends.refl s).of_same rfl rfl
    exact .ite (by simpa using hb) (by simpa using hb)
  | _ =>
    cases h
    simp

/-! ## Steps -/

theorem runInstruction_extends {s t : State} (h : s.runInstruction = .next t) : s.Extends t :=
  runItems_induct (P := s.Extends) (fun _ hu => hu.fetchM1) (fun _ _ _ hu hx => hu.trans (exec_extends hx))
    (fun opcode _ _ hu hx => (hu.fetchOperands opcode).trans (exec_extends (runItem_next.mp hx).1))
    (State.Extends.refl s).fetchM1 h

theorem acceptNmi_extends (s : State) : s.Extends s.acceptNmi := by
  have h : s.Extends { s with nmiPending := false, eiDelay := false, iff1 := false } :=
    (State.Extends.refl s).of_same rfl rfl
  exact State.extends_tick.mpr (h.enterHandler.of_same rfl rfl)

theorem acceptInt_extends {s t : State} {d : Byte} (h : s.acceptInt d = .next t) : s.Extends t := by
  have h1 : s.Extends (State.enterHandler { s with intPending := none, iff1 := false, iff2 := false }) :=
    State.Extends.enterHandler ((State.Extends.refl s).of_same rfl rfl)
  obtain ⟨-, -, rfl⟩ | ⟨-, rfl⟩ | ⟨-, rfl⟩ := State.acceptInt_next h <;> rw [State.extends_tick]
  · exact h1.of_same rfl rfl
  · exact h1.of_same rfl rfl
  · exact (h1.memRead16 (mkWord s.i d)).of_same rfl rfl

/-- Every step. -/
theorem step_extends {s t : State} (h : step s = .next t) : s.Extends t := by
  have h0 : s.Extends { s with tStates := 0 } := (State.Extends.refl s).of_same rfl rfl
  have h1 : s.Extends { s with tStates := 0, eiDelay := false } := (State.Extends.refl s).of_same rfl rfl
  obtain ⟨-, ⟨-, rfl⟩ | ⟨d, -, -, -, hd⟩ | ⟨-, -, rfl⟩ | ⟨-, -, hr⟩⟩ := step_next h
  · exact h0.trans (acceptNmi_extends _)
  · exact h0.trans (acceptInt_extends hd)
  · exact h1.of_same rfl rfl
  · exact h1.trans (runInstruction_extends hr)

/-- Every host event: it makes no access, and what it stores keeps the canonical form of memory. -/
theorem HostEvent.apply_extends (ev : HostEvent) (s : State) : s.Extends (ev.apply s) := by
  have h := State.Extends.refl s
  cases ev with
  | requestNmi | requestInt d | withdrawInt | reset => exact h.of_same rfl rfl
  | storeByte a v => exact ⟨rfl, 0, rfl, rfl, rfl, id, ⟨[], rfl, rfl⟩, Memory.wf_write a v⟩
  | portByte v | deviceState q => exact ⟨rfl, 0, rfl, rfl, rfl, id, ⟨[], rfl, rfl⟩, id⟩

/-- Every run. -/
theorem Reaches.extends {s0 s : State} (h : Reaches s0 s) : s0.Extends s := by
  induction h with
  | start => exact .refl s0
  | step _ hs ih => exact ih.trans (step_extends hs)
  | event ev _ ih => exact ih.trans (ev.apply_extends _)

/-! ## Resets along a run -/

/-- What `Reset()` leaves depends on RESET_REGS, the bus agent and the two counters alone (R40, R201). -/
theorem State.resetCore_eq {s t : State} (h : t.resetRegs = s.resetRegs) :
    t.resetCore = { s.resetCore with bus := t.bus, freeCount := t.freeCount, tStates := t.tStates } := by
  rw [State.resetCore, h, State.resetCore]
  rfl

/-- Power-on leaves what a `Reset()` does (R40, R202). -/
theorem State.resetCore_powerOn (rr : Config.ResetRegs) (b : Bus) :
    (State.powerOn rr b).resetCore = State.powerOn rr b := rfl

/-- Settles O53: a run extends the state it began in, and a `Reset()` of power-on is power-on. -/
theorem parametersAreFixedAlongEveryRun : Obligations.ParametersAreFixedAlongEveryRun := by
  refine ⟨fun s0 s h => ?_, fun rr b s h => ?_⟩
  · obtain ⟨hreg, n, hbus⟩ := h.extends
    exact ⟨hreg, hbus.memMap, hbus.portMap, hbus.failsAt, State.resetCore_eq hreg⟩
  · rw [State.resetCore_eq h.extends.resetRegs, State.resetCore_powerOn]

end Sys2Proof.Machine
end

section
/-!
SUPPORT. The state of 10_state.md: the pair views (R21), the reset state (R40), and what each instruction leaves alone:
the control part of the state (R22, R25 to R27, R32 to R36), memory and the waiting port responses (R39, R77, R87),
and F (R30, R31).
-/

namespace Sys2Proof.Machine

open Sys2Proof.Claims

/-! ## The pair views and the reset state -/

/-- `w >> 8` (R21). -/
theorem hiByte_eq_shift (w : Word) : hiByte w = (w >>> 8).setWidth 8 := by
  ext i hi
  simp [hiByte]

/-- `w & 0xFF` (R21). -/
theorem loByte_eq_mask (w : Word) : loByte w = (w &&& 0xFF).setWidth 8 := by
  have h : BitVec.setWidth 8 (0xFF : Word) = BitVec.allOnes 8 := rfl
  rw [BitVec.setWidth_and, h, BitVec.and_allOnes, loByte, ← BitVec.setWidth_eq_extractLsb' (by decide)]

/-- Settles O12: the two bytes of a word are its shift and its mask, and joining them gives the word back. -/
theorem registerPairsAreViews : Obligations.RegisterPairsAreViews := by
  intro s p
  refine ⟨mkWord_eq_shift_or _ _, mkWord_eq_shift_or _ _, mkWord_eq_shift_or _ _, mkWord_eq_shift_or _ _,
    ?_, mkWord_hiByte_loByte p, ?_, mkWord_hiByte_loByte p, ?_, mkWord_hiByte_loByte p, ?_, mkWord_hiByte_loByte p⟩
  · rw [State.setAF, hiByte_eq_shift, loByte_eq_mask]
  · rw [State.setBC, hiByte_eq_shift, loByte_eq_mask]
  · rw [State.setDE, hiByte_eq_shift, loByte_eq_mask]
  · rw [State.setHL, hiByte_eq_shift, loByte_eq_mask]

/-- Settles O60, by evaluation; `Reset()` leaves what power-on left by `State.resetCore_powerOn`. -/
theorem resetStateIsOneResetWithEmptyMemory : Obligations.ResetStateIsOneResetWithEmptyMemory :=
  ⟨rfl, State.resetCore_powerOn _ _, rfl, rfl, rfl, rfl, rfl, rfl, rfl, rfl, Memory.wf_reset, rfl⟩

/-! ## The control part of the state -/

/-- The part of the state that only a few named instructions write: the alternate bank, PC, I, R, the
interrupt state, Halted and the request latches. -/
structure Control where
  a' : Byte
  f' : Byte
  b' : Byte
  c' : Byte
  d' : Byte
  e' : Byte
  h' : Byte
  l' : Byte
  pc : Word
  i : Byte
  r : Byte
  iff1 : Bool
  iff2 : Bool
  eiDelay : Bool
  im : IntMode
  halted : Bool
  nmiPending : Bool
  intPending : Option Byte

/-- The same control part with another PC. -/
def Control.withPC (c : Control) (pc : Word) : Control := { c with pc := pc }

@[simp] theorem Control.withPC_pc (c : Control) (pc : Word) : (c.withPC pc).pc = pc := rfl

@[simp] theorem Control.withPC_self (c : Control) : c.withPC c.pc = c := rfl

/-- The control part of a state. -/
def State.control (s : State) : Control :=
  { a' := s.a', f' := s.f', b' := s.b', c' := s.c', d' := s.d', e' := s.e', h' := s.h', l' := s.l', pc := s.pc
    i := s.i, r := s.r, iff1 := s.iff1, iff2 := s.iff2, eiDelay := s.eiDelay, im := s.im, halted := s.halted
    nmiPending := s.nmiPending, intPending := s.intPending }

/-- PC by way of the control part, whose rules below give what each operation does to it. -/
theorem State.pc_eq_control_pc (s : State) : s.pc = s.control.pc := rfl

/-! ### What each operation does to it -/

section
variable (s : State)

@[simp] theorem State.control_tick (n : Nat) : (s.tick n).control = s.control := rfl
@[simp] theorem State.control_setF (f : Byte) : (s.setF f).control = s.control := rfl
@[simp] theorem State.control_putAF (r : Byte × Byte) : (s.putAF r).control = s.control := rfl
@[simp] theorem State.control_setDE (v : Word) : (s.setDE v).control = s.control := rfl
@[simp] theorem State.control_setHL (v : Word) : (s.setHL v).control = s.control := rfl
@[simp] theorem State.control_setIndex (ii : IndexReg) (v : Word) : (s.setIndex ii v).control = s.control := by
  simp [State.control]
@[simp] theorem State.control_setR (k : Reg8) (v : Byte) : (s.setR k v).control = s.control := by
  simp [State.control]
@[simp] theorem State.control_setP (ii : IndexReg) (k : PReg) (v : Byte) : (s.setP ii k v).control = s.control := by
  simp [State.control]
@[simp] theorem State.control_setRP (p : RP) (v : Word) : (s.setRP p v).control = s.control := by
  simp [State.control]
@[simp] theorem State.control_setRP2 (p : RP2) (v : Word) : (s.setRP2 p v).control = s.control := by
  simp [State.control]
@[simp] theorem State.control_addA (v : Byte) : (s.addA v).control = s.control := rfl
@[simp] theorem State.control_adcA (v : Byte) : (s.adcA v).control = s.control := rfl
@[simp] theorem State.control_subA (v : Byte) : (s.subA v).control = s.control := rfl
@[simp] theorem State.control_sbcA (v : Byte) : (s.sbcA v).control = s.control := rfl
@[simp] theorem State.control_andA (v : Byte) : (s.andA v).control = s.control := rfl
@[simp] theorem State.control_xorA (v : Byte) : (s.xorA v).control = s.control := rfl
@[simp] theorem State.control_orA (v : Byte) : (s.orA v).control = s.control := rfl
@[simp] theorem State.control_cpA (v : Byte) : (s.cpA v).control = s.control := rfl
@[simp] theorem State.control_modifyR (k : Reg8) (g : Byte → Byte → Byte × Byte) :
    (s.modifyR k g).control = s.control := by
  simp [State.modifyR]
@[simp] theorem State.control_modifyP (ii : IndexReg) (k : PReg) (g : Byte → Byte → Byte × Byte) :
    (s.modifyP ii k g).control = s.control := by
  simp [State.modifyP]

@[simp] theorem State.control_memRead (a : Word) : (s.memRead a).2.control = s.control := rfl
@[simp] theorem State.control_memRead16 (a : Word) : (s.memRead16 a).2.control = s.control := rfl
@[simp] theorem State.control_memWrite (a : Word) (v : Byte) : (s.memWrite a v).control = s.control := rfl
@[simp] theorem State.control_memWrite16 (a v : Word) : (s.memWrite16 a v).control = s.control := rfl
@[simp] theorem State.control_portRead (p : Word) : (s.portRead p).2.control = s.control := rfl
@[simp] theorem State.control_portWrite (p : Word) (v : Byte) : (s.portWrite p v).control = s.control := rfl
@[simp] theorem State.control_push16 (v : Word) : (s.push16 v).control = s.control := by
  rw [State.push16_eq]; rfl
@[simp] theorem State.control_pop16 : s.pop16.2.control = s.control := by
  rw [State.pop16_eq]; rfl
@[simp] theorem State.control_modifyAt (a : Word) (g : Byte → Byte → Byte × Byte) :
    (s.modifyAt a g).2.control = s.control := by
  rw [State.modifyAt_eq]; rfl
@[simp] theorem State.control_exchangeTop (v : Word) : (s.exchangeTop v).2.control = s.control := by
  rw [State.exchangeTop_eq]; rfl
@[simp] theorem State.control_blockMove (step : Word) : (s.blockMove step).control = s.control := by
  rw [State.blockMove_eq]; rfl
@[simp] theorem State.control_blockCompare (step : Word) : (s.blockCompare step).2.control = s.control := by
  rw [State.blockCompare_eq]; rfl
@[simp] theorem State.control_blockIn (step : Word) : (s.blockIn step).control = s.control := by
  rw [State.blockIn_eq]; rfl
@[simp] theorem State.control_blockOut (step : Word) : (s.blockOut step).control = s.control := by
  rw [State.blockOut_eq]; rfl

@[simp] theorem State.control_jump (v : Word) : (s.jump v).control = s.control.withPC v := rfl
@[simp] theorem State.control_jumpRel (e : Byte) :
    (s.jumpRel e).control = s.control.withPC (s.pc + sext16 e) := rfl
@[simp] theorem State.control_call (v : Word) : (s.call v).control = s.control.withPC v := by
  rw [State.call_eq]; rfl
@[simp] theorem State.control_popPC : s.popPC.control = s.control.withPC s.pop16.1 := by
  rw [State.popPC_eq]; rfl
@[simp] theorem State.control_returnFromHandler :
    s.returnFromHandler.control = { s.control.withPC s.pop16.1 with iff1 := s.iff2 } := by
  rw [State.returnFromHandler_eq]; rfl
@[simp] theorem State.control_repeatIf (again : Bool) :
    (s.repeatIf again).control = s.control.withPC (if again then s.pc - 2 else s.pc) := by
  rw [State.repeatIf_eq]; rfl

end

/-! ### What each instruction does to it -/

/-- The control part after an instruction that leaves PC at `pc`, by the rules of the instructions that write it; PC
itself only where `writesPC` says so. -/
def controlAfter (i : Instr) (s : State) (pc : Word) : Control :=
  match i with
  | .ldIA => { s.control with i := s.a }
  | .ldRA => { s.control with r := s.a }
  | .exAFAF => { s.control with a' := s.a, f' := s.f }
  | .exx => { s.control with b' := s.b, c' := s.c, d' := s.d, e' := s.e, h' := s.h, l' := s.l }
  | .halt => { s.control with halted := true }
  | .di => { s.control with iff1 := false, iff2 := false }
  | .ei => { s.control with iff1 := true, iff2 := true, eiDelay := true }
  | .im0 _ _ => { s.control with im := .im0 }
  | .im1 _ => { s.control with im := .im1 }
  | .im2 _ => { s.control with im := .im2 }
  | .reti | .retn _ => { s.control.withPC pc with iff1 := s.iff2 }
  | i => if writesPC i then s.control.withPC pc else s.control

section
variable {i : Instr} {s t : State} (hi : ∀ ii base, i ≠ .xyFallback ii base) (h : exec i s = .next t)
include hi h

/-- Every instruction but a fallback: the named cases write the control part, or registers directly; the others are
chains of the operations above. -/
theorem exec_control : t.control = controlAfter i s t.pc := by
  cases i with
  | xyFallback ii base => exact absurd rfl (hi ii base)
  | ldIA | ldRA | ldAI | ldAR | ldSPHL | ldSPIi | bitAtHL | exAFAF | exx | halt | di | ei | im0 | im1 | im2 =>
    cases h
    rfl
  | reti | retn x =>
    cases h
    change State.control _ = { s.control.withPC _ with iff1 := s.iff2 }
    simp [State.pc_eq_control_pc]
  | jrCcE cc e | jpCcNn cc nn | callCcNn cc nn | retCc cc =>
    cases h
    change State.control _ = s.control.withPC _
    split <;> simp [State.pc_eq_control_pc]
  | djnzE e =>
    cases h
    change State.control _ = s.control.withPC _
    split <;> rfl
  | jpNn | jrE | jpHL | jpIi | callNn | ret | rstP | ldir | lddr | cpir | cpdr | inir | indr | otir | otdr =>
    cases h
    change State.control _ = s.control.withPC _
    simp [State.pc_eq_control_pc]
  | _ =>
    cases h
    change State.control _ = s.control
    simp

end

theorem writesPC_reti : writesPC .reti = true := rfl

theorem writesPC_retn (x : BitVec 3) : writesPC (.retn x) = true := rfl

/-- Which instructions change which field of the control part. -/
theorem Control.changes {j : Instr} {s : State} {c : Control} {pc : Word} (h : c = controlAfter j s pc) :
    (c.i ≠ s.i → j = .ldIA) ∧ (c.r ≠ s.r → j = .ldRA) ∧
    (c.im ≠ s.im → ∃ x5 x3, j = .im0 x5 x3 ∨ j = .im1 x5 ∨ j = .im2 x5) ∧
    (c.iff1 ≠ s.iff1 → j = .di ∨ j = .ei ∨ j = .reti ∨ ∃ x, j = .retn x) ∧
    (c.iff2 ≠ s.iff2 → j = .di ∨ j = .ei) ∧
    (c.eiDelay ≠ s.eiDelay → j = .ei) ∧ (c.halted ≠ s.halted → j = .halt) ∧
    (c.a' ≠ s.a' ∨ c.f' ≠ s.f' → j = .exAFAF) ∧
    (c.b' ≠ s.b' ∨ c.c' ≠ s.c' ∨ c.d' ≠ s.d' ∨ c.e' ≠ s.e' ∨ c.h' ≠ s.h' ∨ c.l' ≠ s.l' → j = .exx) ∧
    (c.pc ≠ s.pc → writesPC j = true) ∧ c.nmiPending = s.nmiPending ∧ c.intPending = s.intPending := by
  unfold controlAfter at h
  split at h
  case h_11 | h_12 => -- `RETI` and `RETN`
    subst h
    simp [Control.withPC, State.control, writesPC_reti, writesPC_retn]
  case h_13 => -- every instruction that has no arm of its own
    split at h <;> subst h <;> simp [Control.withPC, State.control, *]
  all_goals
    subst h
    simp [State.control]

/-! ## The bus agent

### The waiting port responses, and memory that is not RAM -/

/-- Only a port read takes a waiting response (R87). -/
@[simp] theorem Bus.portIn_read (b : Bus) (a : Word) : (b.read a).2.portIn = b.portIn := by
  unfold Bus.read Bus.answerRead
  cases b.memAnswer a with
  | functions => cases Config.busReadMemory b.own a <;> rfl
  | _ => rfl

/-- Only a port read takes a waiting response (R87). -/
@[simp] theorem Bus.portIn_write (b : Bus) (a : Word) (v : Byte) : (b.write a v).portIn = b.portIn := by
  unfold Bus.write Bus.answerWrite
  cases b.memAnswer a with
  | functions => cases Config.busWriteMemory b.own a v <;> rfl
  | _ => rfl

/-- Only a port read takes a waiting response (R87). -/
@[simp] theorem Bus.portIn_writePort (b : Bus) (p : Word) (v : Byte) : (b.writePort p v).portIn = b.portIn := by
  unfold Bus.writePort Bus.answerPortWrite
  cases b.portAnswer p with
  | functions => cases Config.busWritePort b.own p v <;> rfl
  | _ => rfl

/-- A write leaves a byte that is not RAM: its address is another one, or the write itself meets no RAM. -/
theorem Bus.cell_write_of_cell_not_ram {b : Bus} {x : Word} (hx : b.memAnswer x ≠ .ram) (a : Word) (v : Byte) :
    (b.write a v).cell x = b.cell x := by
  by_cases h : x = a
  · exact b.cell_write_of_not_ram a x v (h ▸ hx)
  · exact b.cell_write_other a x v h

/-! ### What each operation does to it -/

section
variable (s : State)

@[simp] theorem State.addA_bus (v : Byte) : (s.addA v).bus = s.bus := rfl
@[simp] theorem State.adcA_bus (v : Byte) : (s.adcA v).bus = s.bus := rfl
@[simp] theorem State.subA_bus (v : Byte) : (s.subA v).bus = s.bus := rfl
@[simp] theorem State.sbcA_bus (v : Byte) : (s.sbcA v).bus = s.bus := rfl
@[simp] theorem State.andA_bus (v : Byte) : (s.andA v).bus = s.bus := rfl
@[simp] theorem State.xorA_bus (v : Byte) : (s.xorA v).bus = s.bus := rfl
@[simp] theorem State.orA_bus (v : Byte) : (s.orA v).bus = s.bus := rfl
@[simp] theorem State.cpA_bus (v : Byte) : (s.cpA v).bus = s.bus := rfl
@[simp] theorem State.modifyR_bus (k : Reg8) (g : Byte → Byte → Byte × Byte) : (s.modifyR k g).bus = s.bus := by
  simp [State.modifyR]
@[simp] theorem State.modifyP_bus (ii : IndexReg) (k : PReg) (g : Byte → Byte → Byte × Byte) :
    (s.modifyP ii k g).bus = s.bus := by
  simp [State.modifyP]
@[simp] theorem State.jump_bus (v : Word) : (s.jump v).bus = s.bus := rfl
@[simp] theorem State.jumpRel_bus (e : Byte) : (s.jumpRel e).bus = s.bus := rfl
@[simp] theorem State.repeatIf_bus (again : Bool) : (s.repeatIf again).bus = s.bus := by rw [State.repeatIf_eq]

@[simp] theorem State.memRead16_2_bus (a : Word) : (s.memRead16 a).2.bus = ((s.bus.read a).2.read (a + 1)).2 := rfl
@[simp] theorem State.memWrite16_bus (a v : Word) :
    (s.memWrite16 a v).bus = (s.bus.write a (loByte v)).write (a + 1) (hiByte v) := rfl
@[simp] theorem State.modifyAt_2_bus (a : Word) (g : Byte → Byte → Byte × Byte) :
    (s.modifyAt a g).2.bus = (s.bus.read a).2.write a (g (s.bus.read a).1 s.f).1 := by rw [State.modifyAt_eq]
@[simp] theorem State.push16_bus (v : Word) :
    (s.push16 v).bus = (s.bus.write (s.sp - 1) (hiByte v)).write (s.sp - 1 - 1) (loByte v) := rfl
@[simp] theorem State.pop16_2_bus : s.pop16.2.bus = ((s.bus.read s.sp).2.read (s.sp + 1)).2 := rfl
@[simp] theorem State.call_bus (v : Word) :
    (s.call v).bus = (s.bus.write (s.sp - 1) (hiByte s.pc)).write (s.sp - 1 - 1) (loByte s.pc) := by
  rw [State.call_eq]
@[simp] theorem State.popPC_bus : s.popPC.bus = ((s.bus.read s.sp).2.read (s.sp + 1)).2 := by rw [State.popPC_eq]
@[simp] theorem State.returnFromHandler_bus : s.returnFromHandler.bus = ((s.bus.read s.sp).2.read (s.sp + 1)).2 := by
  rw [State.returnFromHandler_eq]
@[simp] theorem State.exchangeTop_2_bus (v : Word) :
    (s.exchangeTop v).2.bus =
      (((s.bus.read s.sp).2.read (s.sp + 1)).2.write (s.sp + 1) (hiByte v)).write s.sp (loByte v) := by
  rw [State.exchangeTop_eq]
@[simp] theorem State.blockMove_bus (step : Word) :
    (s.blockMove step).bus = (s.bus.read s.hl).2.write s.de (s.bus.read s.hl).1 := by rw [State.blockMove_eq]
@[simp] theorem State.blockCompare_2_bus (step : Word) : (s.blockCompare step).2.bus = (s.bus.read s.hl).2 := by
  rw [State.blockCompare_eq]
@[simp] theorem State.blockIn_bus (step : Word) :
    (s.blockIn step).bus = (s.bus.readPort s.bc).2.write s.hl (s.bus.readPort s.bc).1 := by rw [State.blockIn_eq]
@[simp] theorem State.blockOut_bus (step : Word) :
    (s.blockOut step).bus = (s.bus.read s.hl).2.writePort (mkWord (s.b - 1) s.c) (s.bus.read s.hl).1 := by
  rw [State.blockOut_eq]

end

/-! ### What each instruction leaves alone -/

section
variable {i : Instr} {s t : State} (hi : ∀ ii base, i ≠ .xyFallback ii base) (h : exec i s = .next t)
include hi h

/-- A byte that is not RAM keeps its value, whatever is written. -/
theorem exec_peek_of_not_ram {x : Word} (hx : s.bus.memAnswer x ≠ .ram) : t.peek x = s.peek x := by
  rw [State.peek, State.peek]
  cases i with
  | xyFallback ii base => exact absurd rfl (hi ii base)
  | jrCcE | jpCcNn | callCcNn | retCc | djnzE =>
    cases h
    split <;> simp [Bus.cell_write_of_cell_not_ram, hx]
  | _ =>
    cases h
    simp [Bus.cell_write_of_cell_not_ram, hx]

/-- Memory keeps every byte under an instruction that does not store; `cases hs` closes the ones that do. -/
theorem exec_mem_of_not_stores (hs : stores i = false) : t.bus.mem = s.bus.mem := by
  cases i with
  | xyFallback ii base => exact absurd rfl (hi ii base)
  | callCcNn => cases hs
  | jrCcE | jpCcNn | retCc | djnzE =>
    cases h
    split <;> simp
  | _ =>
    cases hs
    all_goals
      cases h
      simp

/-- The waiting port responses stay under an instruction that reads no port; `cases hp` closes the ones that do. -/
theorem exec_portIn_of_not_readsPort (hp : readsPort i = false) : t.bus.portIn = s.bus.portIn := by
  cases i with
  | xyFallback ii base => exact absurd rfl (hi ii base)
  | jrCcE | jpCcNn | callCcNn | retCc | djnzE =>
    cases h
    split <;> simp
  | _ =>
    cases hp
    all_goals
      cases h
      simp

end

/-- A fallback's effect is that of the BASE instruction it holds, which is no fallback; another instruction is its own
`inner` (R113, R531). -/
theorem exec_inner {i : Instr} {s t : State} (h : exec i s = .next t) :
    ∃ n, exec (inner i) (s.tick n) = .next t ∧ ∀ ii base, inner i ≠ .xyFallback ii base := by
  cases i with
  | xyFallback ii base =>
    refine ⟨4, exec_xyFallback_next h, ?_⟩
    rintro ii' base' rfl
    cases h
  | _ => exact ⟨0, h, fun _ _ e => by cases e⟩

/-- Settles O42: the control part, memory and the port responses by the instruction itself, the rest by
`exec_extends`. -/
theorem onlyNamedInstructionsWriteSpecialState : Obligations.OnlyNamedInstructionsWriteSpecialState := by
  intro i s t h
  obtain ⟨n, hx, hi⟩ := exec_inner h
  obtain ⟨hI, hR, hIm, hIff1, hIff2, hEi, hHalted, hAF, hBank, hPC, hNmi, hInt⟩ := Control.changes (exec_control hi hx)
  obtain ⟨hreg, m, hbus⟩ := exec_extends h
  obtain ⟨evs, -, htrace⟩ := hbus.trace
  refine ⟨fun x hne => ⟨?_, ?_⟩, hI, hR, hIm, hIff1, hIff2, hEi, hHalted, hAF, hBank, hPC, fun hne => ?_, hNmi, hInt,
    hreg, hbus.memMap, hbus.portMap, hbus.failsAt, evs, htrace⟩
  · by_contra hs
    exact hne (congrArg (Memory.read · x) (exec_mem_of_not_stores (s := s.tick n) hi hx (Bool.eq_false_iff.mpr hs)))
  · by_contra hram
    exact hne (exec_peek_of_not_ram hi hx hram)
  · by_contra hp
    exact hne (exec_portIn_of_not_readsPort (s := s.tick n) hi hx (Bool.eq_false_iff.mpr hp))

/-! ## F -/

/-! ### What each operation of an instruction without flags does to it -/

section
variable (s : State)

@[simp] theorem State.memRead16_2_f (a : Word) : (s.memRead16 a).2.f = s.f := rfl
@[simp] theorem State.memWrite16_f (a v : Word) : (s.memWrite16 a v).f = s.f := rfl
@[simp] theorem State.modifyAt_keepF_2_f (a : Word) (g : Byte → Byte) : (s.modifyAt a (keepF g)).2.f = s.f := by
  rw [State.modifyAt_eq, keepF]
@[simp] theorem State.push16_f (v : Word) : (s.push16 v).f = s.f := by rw [State.push16_eq]
@[simp] theorem State.pop16_2_f : s.pop16.2.f = s.f := by rw [State.pop16_eq]
@[simp] theorem State.exchangeTop_2_f (v : Word) : (s.exchangeTop v).2.f = s.f := by rw [State.exchangeTop_eq]
@[simp] theorem State.jump_f (v : Word) : (s.jump v).f = s.f := rfl
@[simp] theorem State.jumpRel_f (e : Byte) : (s.jumpRel e).f = s.f := rfl
@[simp] theorem State.call_f (v : Word) : (s.call v).f = s.f := by rw [State.call_eq]
@[simp] theorem State.popPC_f : s.popPC.f = s.f := by rw [State.popPC_eq]
@[simp] theorem State.returnFromHandler_f : s.returnFromHandler.f = s.f := by rw [State.returnFromHandler_eq]

end

/-- `POP qq` keeps F for every pair but AF. -/
theorem State.setRP2_f {p : RP2} (hp : p ≠ .af) (s : State) (v : Word) : (s.setRP2 p v).f = s.f := by
  cases p with
  | af => exact absurd rfl hp
  | bc | de | hl => rfl

/-- An instruction whose rule says `Flags: none` is a chain of operations that keep F; `cases hk` closes the others. -/
theorem exec_f_of_keepsF {i : Instr} {s t : State} (hk : keepsF i = true) (h : exec i s = .next t) : t.f = s.f := by
  cases i with
  | popQq p =>
    cases h
    exact State.setRP2_f (bne_iff_ne.mp hk) _ _
  | jrCcE | jpCcNn | callCcNn | retCc | djnzE =>
    cases h
    split <;> simp
  | _ =>
    cases hk
    all_goals
      cases h
      simp

/-- Settles O41: `POP AF` and `EX AF,AF'` write F as the low byte of a word and as F'. -/
theorem flagPreservation : Obligations.FlagPreservation := by
  refine ⟨fun i s t => exec_f_of_keepsF, fun s t h => ?_, fun s t h => ?_⟩
  · cases h
    exact loByte_mkWord _ _
  · cases h
    rfl

end Sys2Proof.Machine
end

section
/-!
SUPPORT. One step, branch by branch (60_exceptions.md R154, R157, R162; 20_memory.md R86), and what follows for the
invariant: a step that goes on has met no failing access, and memory stays in its canonical form.
-/

namespace Sys2Proof.Machine

open Sys2Proof.Claims

/-! ## The branches of a step -/

/-- A machine whose bus has failed is stopped (R86). -/
theorem step_of_failed {s : State} (hf : s.bus.failed = true) : step s = .fault .bus := by
  simp [step, stepBody, hf]

section
variable {s : State} (hf : s.bus.failed = false)
include hf

/-- A non-maskable request is accepted before all else (R154, R156). -/
theorem step_of_nmiPending (hn : s.nmiPending = true) :
    step s = guardBus s.bus.trace.length (.next (State.acceptNmi { s with tStates := 0 })) := by
  simp [step, stepBody, hf, hn]

/-- A maskable request that is enabled is accepted (R157). -/
theorem step_of_intPending {d : Byte} (hn : s.nmiPending = false) (hd : s.intPending = some d)
    (ha : s.intAcceptable = true) :
    step s = guardBus s.bus.trace.length (State.acceptInt d { s with tStates := 0 }) := by
  simp only [State.intAcceptable] at ha
  simp [step, stepBody, hf, hn, hd, State.intAcceptable, ha]

/-- No interrupt is accepted: the step proceeds (R162). -/
theorem step_of_noAcceptance (hq : NoAcceptance s) : step s = State.proceed { s with tStates := 0 } := by
  obtain ⟨hn, hd | hi | he⟩ := hq
  · simp [step, stepBody, hf, hn, hd]
  · cases hd : s.intPending <;> simp [step, stepBody, hf, hn, hd, State.intAcceptable, hi]
  · cases hd : s.intPending <;> simp [step, stepBody, hf, hn, hd, State.intAcceptable, he]

/-- The halted step makes no access (R161). -/
theorem step_of_halted (hq : NoAcceptance s) (hh : s.halted = true) :
    step s = .next (State.haltedStep { s with tStates := 0, eiDelay := false }) := by
  simp [step_of_noAcceptance hf hq, State.proceed, hh]

/-- The step that runs an instruction (R102, R162). -/
theorem step_of_running (hq : NoAcceptance s) (hh : s.halted = false) :
    step s = State.runInstruction { s with tStates := 0, eiDelay := false } := by
  simp [step_of_noAcceptance hf hq, State.proceed, hh]

end

/-- What a boundary can be (R154, R157, R161): one case for each of the four equations above. -/
theorem boundary_cases (s : State) :
    s.nmiPending = true ∨
    (∃ d, s.nmiPending = false ∧ s.intPending = some d ∧ s.intAcceptable = true) ∨
    (NoAcceptance s ∧ s.halted = true) ∨ (NoAcceptance s ∧ s.halted = false) := by
  cases hn : s.nmiPending with
  | true => exact .inl rfl
  | false =>
    have hquiet (hq : NoAcceptance s) :
        (NoAcceptance s ∧ s.halted = true) ∨ (NoAcceptance s ∧ s.halted = false) := by
      cases s.halted <;> simp [hq]
    cases hd : s.intPending with
    | none => exact .inr (.inr (hquiet ⟨hn, .inl hd⟩))
    | some d =>
      cases ha : s.intAcceptable with
      | true => exact .inr (.inl ⟨d, rfl, rfl, rfl⟩)
      | false => exact .inr (.inr (hquiet ⟨hn, .inr ((Bool.and_eq_false_iff.mp ha).imp_right (by simp))⟩))

/-! ## A step that goes on has met no failing access -/

theorem runItems_unfailed {n fuel : Nat} {b : Byte} {s t : State} (h : runItems n fuel b s = .next t) :
    t.bus.failed = false := by
  induction fuel generalizing b s with
  | zero => cases h
  | succ left ih =>
    obtain ⟨ii, s1, -, -, -, -, hrest⟩ | ⟨-, hitem⟩ | ⟨-, hitem⟩ := runItems_next h
    · exact ih hrest
    · obtain ⟨-, hfailed, -⟩ := runItem_next.mp hitem
      exact hfailed
    · obtain ⟨-, hfailed, -⟩ := runItem_next.mp hitem
      exact hfailed

theorem step_unfailed {s t : State} (h : step s = .next t) : t.bus.failed = false := by
  have hf := (step_next h).1
  obtain hn | ⟨d, hn, hd, ha⟩ | ⟨hq, hh⟩ | ⟨hq, hh⟩ := boundary_cases s
  · rw [step_of_nmiPending hf hn] at h
    obtain ⟨-, hfailed, -⟩ := guardBus_next.mp h
    exact hfailed
  · rw [step_of_intPending hf hn hd ha] at h
    obtain ⟨-, hfailed, -⟩ := guardBus_next.mp h
    exact hfailed
  · rw [step_of_halted hf hq hh] at h
    cases h
    exact hf
  · rw [step_of_running hf hq hh] at h
    exact runItems_unfailed h

/-! ## The invariant -/

/-- A later bus agent holds memory in canonical form, as the earlier one did. -/
theorem State.Extends.wf {s t : State} (h : s.Extends t) (hs : Memory.wf s.bus.mem = true) :
    Memory.wf t.bus.mem = true := by
  obtain ⟨n, hn⟩ := h.bus
  exact hn.wf hs

/-- No host event is an access, so none fails. -/
@[simp] theorem HostEvent.apply_failed (ev : HostEvent) (s : State) : (ev.apply s).bus.failed = s.bus.failed := by
  cases ev <;> rfl

/-- Settles O59: a step and a host event extend the state, which keeps the canonical form; a step that goes on has met
no failing access, and an event makes none. -/
theorem stepKeepsMemoryCanonical : Obligations.StepKeepsMemoryCanonical := by
  refine ⟨fun s t ⟨hwf, _⟩ h => ⟨(step_extends h).wf hwf, step_unfailed h⟩, fun s ev ⟨hwf, hfailed⟩ => ?_⟩
  exact ⟨(ev.apply_extends s).wf hwf, by rwa [ev.apply_failed]⟩

end Sys2Proof.Machine
end

section
/-!
SUPPORT. The stack (20_memory.md R89): what memory holds after a word is written high byte first, and a pop after a
push.
-/

namespace Sys2Proof.Machine

open Sys2Proof.Claims

/-! ## A word written high byte first -/

/-- Both bytes of a word written high byte first stand where they belong, and nothing else has changed. -/
theorem wordStored_of_bus_eq {s t : State} {a v : Word}
    (h : t.bus = (s.bus.write (a + 1) (hiByte v)).write a (loByte v)) : WordStored s t a v := by
  have hne : a + 1 ≠ a := by bv_omega
  refine ⟨fun ha => ?_, fun ha => ?_, fun x hx hx1 => ?_⟩ <;> rw [State.peek, h]
  · exact Bus.cell_write_same _ _ _ (by simpa using ha)
  · rw [Bus.cell_write_other _ _ _ _ hne]
    exact Bus.cell_write_same _ _ _ ha
  · have hlow : ((s.bus.write (a + 1) (hiByte v)).write a (loByte v)).cell x = (s.bus.write (a + 1) (hiByte v)).cell x :=
      hx.elim (Bus.cell_write_other _ _ _ _) fun ha => Bus.cell_write_of_not_ram _ _ _ _ (by simpa using ha)
    have hhigh : (s.bus.write (a + 1) (hiByte v)).cell x = s.bus.cell x :=
      hx1.elim (Bus.cell_write_other _ _ _ _) (Bus.cell_write_of_not_ram _ _ _ _)
    rw [hlow, hhigh, State.peek]

/-! ## Push and pop -/

/-- `push16` with its addresses counted from the SP of before. -/
theorem State.push16_eq_pushed (s : State) (v : Word) :
    s.push16 v = { s with sp := s.sp - 2, bus := pushed s.bus s.sp v } := by
  have h : s.sp - 1 - 1 = s.sp - 2 := by bv_omega
  rw [State.push16_eq, h, pushed]

/-- `pop16` with its word read at the SP of before. -/
theorem State.pop16_eq_wordFrom (s : State) :
    s.pop16 = (wordFrom s s.sp, { s with sp := s.sp + 2, bus := busAfterReads s s.sp }) := by
  have h : s.sp + 1 + 1 = s.sp + 2 := by bv_omega
  rw [State.pop16_eq, h, wordFrom, busAfterReads]

theorem State.wordStored_push16 (s : State) (v : Word) : WordStored s (s.push16 v) (s.sp - 2) v := by
  have h : s.sp - 2 + 1 = s.sp - 1 := by bv_omega
  apply wordStored_of_bus_eq
  rw [State.push16_eq_pushed, pushed, h]

/-- Two reads of memory answer the word its two bytes make, low byte first (R74). -/
theorem wordFrom_of_isMemory {s : State} {a : Word} (h : (s.bus.memAnswer a).isMemory = true)
    (h1 : (s.bus.memAnswer (a + 1)).isMemory = true) : wordFrom s a = mkWord (s.peek (a + 1)) (s.peek a) := by
  rw [wordFrom, Bus.read_of_isMemory (s.bus.read a).2 (a + 1) (by simpa using h1), Bus.cell_read,
    s.bus.read_of_isMemory a h]
  rfl

/-- In RAM a pop answers the word just pushed (R89). -/
theorem State.pop16_push16 {s : State} {v : Word} (h : s.bus.memAnswer (s.sp - 2) = .ram)
    (h1 : s.bus.memAnswer (s.sp - 1) = .ram) : (s.push16 v).pop16.1 = v := by
  have hsp : s.sp - 2 + 1 = s.sp - 1 := by bv_omega
  have hmap (x : Word) : (s.push16 v).bus.memAnswer x = s.bus.memAnswer x := by simp
  have hpush : (s.push16 v).sp = s.sp - 2 := by rw [State.push16_eq_pushed]
  obtain ⟨hlow, hhigh, -⟩ := s.wordStored_push16 v
  rw [State.pop16_eq_wordFrom, hpush, wordFrom_of_isMemory (by rw [hmap, h]; rfl) (by rw [hmap, hsp, h1]; rfl),
    hlow h, hhigh (by rw [hsp, h1]), mkWord_hiByte_loByte]

/-- Settles O14: the two writes of a push and the two reads of a pop, at addresses counted from the SP of before. -/
theorem pushAndPopPrimitives : Obligations.PushAndPopPrimitives := by
  refine fun s v => ⟨⟨s.push16_eq_pushed v, s.wordStored_push16 v, fun h h1 => ⟨State.pop16_push16 h h1, ?_⟩⟩,
    s.pop16_eq_wordFrom, fun x => ?_⟩
  · rw [State.pop16_eq_wordFrom, State.push16_eq_pushed]
    exact BitVec.sub_add_cancel s.sp 2
  · simp [State.peek]

end Sys2Proof.Machine
end

section
/-!
SUPPORT. Which access fails is data that no operation of the core looks at (20_memory.md R86, R170;
92_eei_decisions.md D12): another value of `failsAt` leaves every operation, every instruction and the run of a step as
they were, and only the guard at the end of a step tells them apart.
-/

namespace Sys2Proof.Machine

open Sys2Proof.Claims

/-! ## Another failing access -/

/-- The bus agent with another choice of the access that fails. -/
def Bus.withFailsAt (o : Option Nat) (b : Bus) : Bus := { b with failsAt := o }

/-- An answer to a read, with another choice of the access that fails. -/
def ReadAnswer.withFailsAt (o : Option Nat) (r : ReadAnswer) : ReadAnswer := r.map fun x => (x.1, x.2.withFailsAt o)

/-- The state with another choice of the access that fails. -/
def State.withFailsAt (o : Option Nat) (s : State) : State := { s with bus := s.bus.withFailsAt o }

section
variable (o : Option Nat) (b : Bus)

@[simp] theorem Bus.failed_withFailsAt : (b.withFailsAt o).failed = b.failed := rfl
@[simp] theorem Bus.failsAt_withFailsAt : (b.withFailsAt o).failsAt = o := rfl
@[simp] theorem Bus.trace_withFailsAt : (b.withFailsAt o).trace = b.trace := rfl
@[simp] theorem Bus.memAnswer_withFailsAt (a : Word) : (b.withFailsAt o).memAnswer a = b.memAnswer a := rfl
@[simp] theorem Bus.portAnswer_withFailsAt (p : Word) : (b.withFailsAt o).portAnswer p = b.portAnswer p := rfl

/-! ### The accesses -/

theorem Bus.finishRead_withFailsAt (ev : Byte → BusEvent) (r : ReadAnswer) :
    (b.withFailsAt o).finishRead ev (r.withFailsAt o) =
      ((b.finishRead ev r).1, (b.finishRead ev r).2.withFailsAt o) := by
  cases r <;> rfl

theorem Bus.finishWrite_withFailsAt (ev : BusEvent) (r : Option Bus) :
    (b.withFailsAt o).finishWrite ev (r.map (Bus.withFailsAt o)) = (b.finishWrite ev r).withFailsAt o := by
  cases r <;> rfl

theorem Bus.answerRead_withFailsAt (a : Word) :
    (b.withFailsAt o).answerRead a = (b.answerRead a).withFailsAt o := by
  rw [Bus.answerRead, Bus.memAnswer_withFailsAt, Bus.answerRead]
  cases b.memAnswer a with
  | functions =>
    simp only [ReadAnswer.withFailsAt, Option.map_map]
    rfl
  | _ => rfl

theorem Bus.answerWrite_withFailsAt (a : Word) (v : Byte) :
    (b.withFailsAt o).answerWrite a v = (b.answerWrite a v).map (Bus.withFailsAt o) := by
  rw [Bus.answerWrite, Bus.memAnswer_withFailsAt, Bus.answerWrite]
  cases b.memAnswer a with
  | functions =>
    simp only [Option.map_map]
    rfl
  | _ => rfl

theorem Bus.answerPortRead_withFailsAt (p : Word) :
    (b.withFailsAt o).answerPortRead p = (b.answerPortRead p).withFailsAt o := by
  rw [Bus.answerPortRead, Bus.portAnswer_withFailsAt, Bus.answerPortRead]
  cases b.portAnswer p with
  | functions =>
    simp only [ReadAnswer.withFailsAt, Option.map_map]
    rfl
  | _ => rfl

theorem Bus.answerPortWrite_withFailsAt (p : Word) (v : Byte) :
    (b.withFailsAt o).answerPortWrite p v = (b.answerPortWrite p v).map (Bus.withFailsAt o) := by
  rw [Bus.answerPortWrite, Bus.portAnswer_withFailsAt, Bus.answerPortWrite]
  cases b.portAnswer p with
  | functions =>
    simp only [Option.map_map]
    rfl
  | _ => rfl

@[simp] theorem Bus.fetch_withFailsAt (a : Word) :
    (b.withFailsAt o).fetch a = ((b.fetch a).1, (b.fetch a).2.withFailsAt o) := by
  rw [Bus.fetch, Bus.answerRead_withFailsAt, Bus.finishRead_withFailsAt, Bus.fetch]

@[simp] theorem Bus.read_withFailsAt (a : Word) :
    (b.withFailsAt o).read a = ((b.read a).1, (b.read a).2.withFailsAt o) := by
  rw [Bus.read, Bus.answerRead_withFailsAt, Bus.finishRead_withFailsAt, Bus.read]

@[simp] theorem Bus.write_withFailsAt (a : Word) (v : Byte) :
    (b.withFailsAt o).write a v = (b.write a v).withFailsAt o := by
  rw [Bus.write, Bus.answerWrite_withFailsAt, Bus.finishWrite_withFailsAt, Bus.write]

@[simp] theorem Bus.readPort_withFailsAt (p : Word) :
    (b.withFailsAt o).readPort p = ((b.readPort p).1, (b.readPort p).2.withFailsAt o) := by
  rw [Bus.readPort, Bus.answerPortRead_withFailsAt, Bus.finishRead_withFailsAt, Bus.readPort]

@[simp] theorem Bus.writePort_withFailsAt (p : Word) (v : Byte) :
    (b.withFailsAt o).writePort p v = (b.writePort p v).withFailsAt o := by
  rw [Bus.writePort, Bus.answerPortWrite_withFailsAt, Bus.finishWrite_withFailsAt, Bus.writePort]

end

/-! ### What the core reads of a state -/

section
variable (o : Option Nat) (s : State)

@[simp] theorem State.bus_withFailsAt : (s.withFailsAt o).bus = s.bus.withFailsAt o := rfl
@[simp] theorem State.a_withFailsAt : (s.withFailsAt o).a = s.a := rfl
@[simp] theorem State.f_withFailsAt : (s.withFailsAt o).f = s.f := rfl
@[simp] theorem State.b_withFailsAt : (s.withFailsAt o).b = s.b := rfl
@[simp] theorem State.c_withFailsAt : (s.withFailsAt o).c = s.c := rfl
@[simp] theorem State.d_withFailsAt : (s.withFailsAt o).d = s.d := rfl
@[simp] theorem State.e_withFailsAt : (s.withFailsAt o).e = s.e := rfl
@[simp] theorem State.sp_withFailsAt : (s.withFailsAt o).sp = s.sp := rfl
@[simp] theorem State.pc_withFailsAt : (s.withFailsAt o).pc = s.pc := rfl
@[simp] theorem State.bc_withFailsAt : (s.withFailsAt o).bc = s.bc := rfl
@[simp] theorem State.de_withFailsAt : (s.withFailsAt o).de = s.de := rfl
@[simp] theorem State.hl_withFailsAt : (s.withFailsAt o).hl = s.hl := rfl
@[simp] theorem State.index_withFailsAt (ii : IndexReg) : (s.withFailsAt o).index ii = s.index ii := by
  cases ii <;> rfl
@[simp] theorem State.ea_withFailsAt (ii : IndexReg) (d : Byte) : (s.withFailsAt o).ea ii d = s.ea ii d := by
  simp [State.ea]
@[simp] theorem State.getR_withFailsAt (k : Reg8) : (s.withFailsAt o).getR k = s.getR k := by cases k <;> rfl
@[simp] theorem State.getP_withFailsAt (ii : IndexReg) (k : PReg) : (s.withFailsAt o).getP ii k = s.getP ii k := by
  cases k <;> simp [State.getP]
@[simp] theorem State.getRP_withFailsAt (p : RP) : (s.withFailsAt o).getRP p = s.getRP p := by cases p <;> rfl
@[simp] theorem State.getRP2_withFailsAt (p : RP2) : (s.withFailsAt o).getRP2 p = s.getRP2 p := by cases p <;> rfl
@[simp] theorem State.getRPI_withFailsAt (ii : IndexReg) (p : RPI) :
    (s.withFailsAt o).getRPI ii p = s.getRPI ii p := by cases p <;> simp [State.getRPI]
@[simp] theorem State.carry_withFailsAt : (s.withFailsAt o).carry = s.carry := rfl
@[simp] theorem State.cond_withFailsAt (cc : Cond) : (s.withFailsAt o).cond cc = s.cond cc := by cases cc <;> rfl

/-! ### Registers and the clock -/

@[simp] theorem State.tick_withFailsAt (n : Nat) : (s.withFailsAt o).tick n = (s.tick n).withFailsAt o := rfl
@[simp] theorem State.setF_withFailsAt (f : Byte) : (s.withFailsAt o).setF f = (s.setF f).withFailsAt o := rfl
@[simp] theorem State.putAF_withFailsAt (r : Byte × Byte) :
    (s.withFailsAt o).putAF r = (s.putAF r).withFailsAt o := rfl
@[simp] theorem State.setDE_withFailsAt (v : Word) : (s.withFailsAt o).setDE v = (s.setDE v).withFailsAt o := rfl
@[simp] theorem State.setHL_withFailsAt (v : Word) : (s.withFailsAt o).setHL v = (s.setHL v).withFailsAt o := rfl
@[simp] theorem State.jump_withFailsAt (v : Word) : (s.withFailsAt o).jump v = (s.jump v).withFailsAt o := rfl
@[simp] theorem State.jumpRel_withFailsAt (e : Byte) :
    (s.withFailsAt o).jumpRel e = (s.jumpRel e).withFailsAt o := rfl
@[simp] theorem State.setIndex_withFailsAt (ii : IndexReg) (v : Word) :
    (s.withFailsAt o).setIndex ii v = (s.setIndex ii v).withFailsAt o := by cases ii <;> rfl
@[simp] theorem State.setR_withFailsAt (k : Reg8) (v : Byte) :
    (s.withFailsAt o).setR k v = (s.setR k v).withFailsAt o := by cases k <;> rfl
@[simp] theorem State.setP_withFailsAt (ii : IndexReg) (k : PReg) (v : Byte) :
    (s.withFailsAt o).setP ii k v = (s.setP ii k v).withFailsAt o := by
  cases k with
  | iiH | iiL => simp [State.setP]
  | _ => rfl
@[simp] theorem State.setRP_withFailsAt (p : RP) (v : Word) :
    (s.withFailsAt o).setRP p v = (s.setRP p v).withFailsAt o := by cases p <;> rfl
@[simp] theorem State.setRP2_withFailsAt (p : RP2) (v : Word) :
    (s.withFailsAt o).setRP2 p v = (s.setRP2 p v).withFailsAt o := by cases p <;> rfl
@[simp] theorem State.addA_withFailsAt (v : Byte) : (s.withFailsAt o).addA v = (s.addA v).withFailsAt o := rfl
@[simp] theorem State.adcA_withFailsAt (v : Byte) : (s.withFailsAt o).adcA v = (s.adcA v).withFailsAt o := rfl
@[simp] theorem State.subA_withFailsAt (v : Byte) : (s.withFailsAt o).subA v = (s.subA v).withFailsAt o := rfl
@[simp] theorem State.sbcA_withFailsAt (v : Byte) : (s.withFailsAt o).sbcA v = (s.sbcA v).withFailsAt o := rfl
@[simp] theorem State.andA_withFailsAt (v : Byte) : (s.withFailsAt o).andA v = (s.andA v).withFailsAt o := rfl
@[simp] theorem State.xorA_withFailsAt (v : Byte) : (s.withFailsAt o).xorA v = (s.xorA v).withFailsAt o := rfl
@[simp] theorem State.orA_withFailsAt (v : Byte) : (s.withFailsAt o).orA v = (s.orA v).withFailsAt o := rfl
@[simp] theorem State.cpA_withFailsAt (v : Byte) : (s.withFailsAt o).cpA v = (s.cpA v).withFailsAt o := rfl
@[simp] theorem State.modifyR_withFailsAt (k : Reg8) (g : Byte → Byte → Byte × Byte) :
    (s.withFailsAt o).modifyR k g = (s.modifyR k g).withFailsAt o := by simp [State.modifyR]
@[simp] theorem State.modifyP_withFailsAt (ii : IndexReg) (k : PReg) (g : Byte → Byte → Byte × Byte) :
    (s.withFailsAt o).modifyP ii k g = (s.modifyP ii k g).withFailsAt o := by simp [State.modifyP]
@[simp] theorem State.repeatIf_withFailsAt (again : Bool) :
    (s.withFailsAt o).repeatIf again = (s.repeatIf again).withFailsAt o := by cases again <;> rfl

/-! ### Memory, ports, the stack and the operations of the families -/

@[simp] theorem State.memRead_withFailsAt (a : Word) :
    (s.withFailsAt o).memRead a = ((s.memRead a).1, (s.memRead a).2.withFailsAt o) := by
  simp [State.memRead_eq, State.withFailsAt]
@[simp] theorem State.memRead16_withFailsAt (a : Word) :
    (s.withFailsAt o).memRead16 a = ((s.memRead16 a).1, (s.memRead16 a).2.withFailsAt o) := by
  simp [State.memRead16_eq, State.withFailsAt]
@[simp] theorem State.memWrite_withFailsAt (a : Word) (v : Byte) :
    (s.withFailsAt o).memWrite a v = (s.memWrite a v).withFailsAt o := by
  simp [State.memWrite_eq, State.withFailsAt]
@[simp] theorem State.memWrite16_withFailsAt (a v : Word) :
    (s.withFailsAt o).memWrite16 a v = (s.memWrite16 a v).withFailsAt o := by
  simp [State.memWrite16_eq, State.withFailsAt]
@[simp] theorem State.portRead_withFailsAt (p : Word) :
    (s.withFailsAt o).portRead p = ((s.portRead p).1, (s.portRead p).2.withFailsAt o) := by
  simp [State.portRead_eq, State.withFailsAt]
@[simp] theorem State.portWrite_withFailsAt (p : Word) (v : Byte) :
    (s.withFailsAt o).portWrite p v = (s.portWrite p v).withFailsAt o := by
  simp [State.portWrite_eq, State.withFailsAt]
@[simp] theorem State.modifyAt_withFailsAt (a : Word) (g : Byte → Byte → Byte × Byte) :
    (s.withFailsAt o).modifyAt a g = ((s.modifyAt a g).1, (s.modifyAt a g).2.withFailsAt o) := by
  simp [State.modifyAt]
@[simp] theorem State.push16_withFailsAt (v : Word) :
    (s.withFailsAt o).push16 v = (s.push16 v).withFailsAt o := by
  simp [State.push16_eq, State.withFailsAt]
@[simp] theorem State.pop16_withFailsAt :
    (s.withFailsAt o).pop16 = (s.pop16.1, s.pop16.2.withFailsAt o) := by
  simp [State.pop16_eq, State.withFailsAt]
@[simp] theorem State.call_withFailsAt (v : Word) : (s.withFailsAt o).call v = (s.call v).withFailsAt o := by
  simp [State.call]
@[simp] theorem State.popPC_withFailsAt : (s.withFailsAt o).popPC = s.popPC.withFailsAt o := by
  simp [State.popPC]
@[simp] theorem State.exchangeTop_withFailsAt (v : Word) :
    (s.withFailsAt o).exchangeTop v = ((s.exchangeTop v).1, (s.exchangeTop v).2.withFailsAt o) := by
  simp [State.exchangeTop]
@[simp] theorem State.enterHandler_withFailsAt :
    (s.withFailsAt o).enterHandler = s.enterHandler.withFailsAt o := by
  simp [State.enterHandler_eq, State.withFailsAt]
@[simp] theorem State.returnFromHandler_withFailsAt :
    (s.withFailsAt o).returnFromHandler = s.returnFromHandler.withFailsAt o := by
  simp [State.returnFromHandler_eq, State.withFailsAt]
@[simp] theorem State.blockMove_withFailsAt (step : Word) :
    (s.withFailsAt o).blockMove step = (s.blockMove step).withFailsAt o := by
  simp [State.blockMove_eq, State.withFailsAt, State.bc, State.de, State.hl]
@[simp] theorem State.blockCompare_withFailsAt (step : Word) :
    (s.withFailsAt o).blockCompare step = ((s.blockCompare step).1, (s.blockCompare step).2.withFailsAt o) := by
  simp [State.blockCompare_eq, State.withFailsAt, State.bc, State.hl]
@[simp] theorem State.blockIn_withFailsAt (step : Word) :
    (s.withFailsAt o).blockIn step = (s.blockIn step).withFailsAt o := by
  simp [State.blockIn_eq, State.withFailsAt, State.bc, State.hl]
@[simp] theorem State.blockOut_withFailsAt (step : Word) :
    (s.withFailsAt o).blockOut step = (s.blockOut step).withFailsAt o := by
  simp [State.blockOut_eq, State.withFailsAt, State.hl]

/-! ### Fetch -/

@[simp] theorem State.fetchByte_withFailsAt :
    (s.withFailsAt o).fetchByte = (s.fetchByte.1, s.fetchByte.2.withFailsAt o) := by
  simp [State.fetchByte_eq, State.withFailsAt]
@[simp] theorem State.fetchM1_withFailsAt :
    (s.withFailsAt o).fetchM1 = (s.fetchM1.1, s.fetchM1.2.withFailsAt o) := by
  simp [State.fetchM1_eq, State.withFailsAt]
@[simp] theorem State.fetchBytes_withFailsAt (n : Nat) :
    (s.withFailsAt o).fetchBytes n = ((s.fetchBytes n).1, (s.fetchBytes n).2.withFailsAt o) := by
  induction n generalizing s with
  | zero => rfl
  | succ k ih => simp [State.fetchBytes, ih]
@[simp] theorem State.fetchOperands_withFailsAt (opcode : List Byte) :
    (s.withFailsAt o).fetchOperands opcode =
      ((s.fetchOperands opcode).1, (s.fetchOperands opcode).2.withFailsAt o) := by
  simp [State.fetchOperands]

end

/-! ## Instructions -/

/-- When a fallback goes on: a BASE instruction that it may hold goes on, 4 T-states later (R113, R531). -/
theorem exec_xyFallback_next_iff {ii : IndexReg} {base : Instr} {s t : State} :
    exec (.xyFallback ii base) s = .next t ↔ base.isFallbackBase = true ∧ exec base (s.tick 4) = .next t := by
  change execXyFallback ii base s = .next t ↔ _
  rw [execXyFallback]
  split
  · simp [*, execFallbackBase_eq_exec]
  · simp [*]

/-- Every instruction: its meaning is a chain of the operations above; the named cases write registers directly or
choose by a condition, and a fallback goes to its BASE instruction. -/
theorem exec_withFailsAt {i : Instr} {s t : State} (o : Option Nat) (h : exec i s = .next t) :
    exec i (s.withFailsAt o) = .next (t.withFailsAt o) := by
  induction i generalizing s with
  | xyFallback ii base ih =>
    rw [exec_xyFallback_next_iff] at h ⊢
    obtain ⟨hb, hx⟩ := h
    exact ⟨hb, ih hx⟩
  | ldIA | ldRA | ldAI | ldAR | ldSPHL | ldSPIi | exAFAF | exx | halt | di | ei | im0 | im1 | im2 =>
    cases h
    rfl
  | bitAtHL b =>
    cases h
    refine congrArg Host.Outcome.next ?_
    simp only [State.hl_withFailsAt, State.memRead_withFailsAt]
    rfl
  | djnzE e =>
    cases h
    refine congrArg Host.Outcome.next ?_
    rw [apply_ite (State.withFailsAt o)]
    rfl
  | jrCcE cc | jpCcNn cc | callCcNn cc | retCc cc =>
    cases h
    refine congrArg Host.Outcome.next ?_
    rw [State.cond_withFailsAt]
    cases s.cond cc <;> simp
  | _ =>
    cases h
    refine congrArg Host.Outcome.next ?_
    simp

/-! ## Steps -/

/-- Answers that agree up to the choice of the failing access are told apart by the guard alone. -/
theorem guardBus_congr_withFailsAt {n : Nat} {r r' : Result} {t : State} (o : Option Nat)
    (hr : ∀ t, r = .next t → r' = .next (t.withFailsAt o)) (h : guardBus n r = .next t) :
    guardBus n r' = guardBus n (.next (t.withFailsAt o)) := by
  rw [hr t (guardBus_next.mp h).1]

/-- An item that goes on is fetched and executed alike, up to its guard. -/
theorem runItem_withFailsAt {n : Nat} {opcode : List Byte} {s t : State} (o : Option Nat)
    (h : runItem n opcode s = .next t) :
    runItem n opcode (s.withFailsAt o) = guardBus n (.next (t.withFailsAt o)) := by
  refine guardBus_congr_withFailsAt o (fun u hu => ?_) h
  rw [State.fetchOperands_withFailsAt]
  exact exec_withFailsAt o hu

/-! ### The rounds of a prefix chain -/

section
variable {n left : Nat} {b : Byte} {s : State}

/-- A DD or FD byte that takes the last of PREFIX_FUEL (R111 e). -/
theorem runItems_last_ne_next {ii : IndexReg} {t : State} (hb : IndexReg.ofByte b = some ii) :
    runItems n 1 b s ≠ .next t := by
  simp only [runItems, hb, if_true]
  split <;> simp

/-- A DD or FD byte that is dropped (R111 a, b). -/
theorem runItems_of_dropped {ii : IndexReg} (hb : IndexReg.ofByte b = some ii) (hleft : left ≠ 0)
    (hd : dropsPrefix s.fetchM1.1 = true) :
    runItems n (left + 1) b s = runItems n left s.fetchM1.1 (s.fetchM1.2.tick 4) := by
  simp [runItems, hb, hleft, hd, exec, execPrefixXY]

/-- A DD or FD byte with its opcode (R102, R113). -/
theorem runItems_of_prefixed {ii : IndexReg} (hb : IndexReg.ofByte b = some ii) (hleft : left ≠ 0)
    (hd : dropsPrefix s.fetchM1.1 = false) :
    runItems n (left + 1) b s = runItem n [b, s.fetchM1.1] s.fetchM1.2 := by
  simp [runItems, hb, hleft, hd]

/-- A CB or ED byte with its opcode (R102). -/
theorem runItems_of_lead (hb : IndexReg.ofByte b = none) (hl : isLeadByte b = true) :
    runItems n (left + 1) b s = runItem n [b, s.fetchM1.1] s.fetchM1.2 := by
  simp [runItems, hb, hl]

/-- An opcode of table BASE (R102). -/
theorem runItems_of_base (hb : IndexReg.ofByte b = none) (hl : isLeadByte b = false) :
    runItems n (left + 1) b s = runItem n [b] s := by
  simp [runItems, hb, hl]

end

/-- A chain of prefixes that goes on takes the same rounds, up to the guard at its last item. -/
theorem runItems_withFailsAt {n fuel : Nat} {b : Byte} {s t : State} (o : Option Nat)
    (h : runItems n fuel b s = .next t) :
    runItems n fuel b (s.withFailsAt o) = guardBus n (.next (t.withFailsAt o)) := by
  induction fuel generalizing b s with
  | zero => cases h
  | succ left ih =>
    have hf := s.fetchM1_withFailsAt o
    cases hb : IndexReg.ofByte b with
    | some ii =>
      by_cases hleft : left = 0
      · subst hleft
        exact absurd h (runItems_last_ne_next hb)
      cases hd : dropsPrefix s.fetchM1.1 with
      | true =>
        rw [runItems_of_dropped hb hleft hd] at h
        rw [runItems_of_dropped hb hleft (by rw [hf]; exact hd), hf]
        exact ih h
      | false =>
        rw [runItems_of_prefixed hb hleft hd] at h
        rw [runItems_of_prefixed hb hleft (by rw [hf]; exact hd), hf]
        exact runItem_withFailsAt o h
    | none =>
      cases hl : isLeadByte b with
      | true =>
        rw [runItems_of_lead hb hl] at h ⊢
        rw [hf]
        exact runItem_withFailsAt o h
      | false =>
        rw [runItems_of_base hb hl] at h ⊢
        exact runItem_withFailsAt o h

theorem runInstruction_withFailsAt {s t : State} (o : Option Nat) (h : s.runInstruction = .next t) :
    (s.withFailsAt o).runInstruction = guardBus s.bus.trace.length (.next (t.withFailsAt o)) := by
  rw [State.runInstruction, State.fetchM1_withFailsAt]
  exact runItems_withFailsAt o h

/-! ### Acceptance -/

theorem acceptNmi_withFailsAt (o : Option Nat) (s : State) :
    (s.withFailsAt o).acceptNmi = s.acceptNmi.withFailsAt o := by
  simp [State.acceptNmi, State.enterHandler_eq, State.withFailsAt, State.tick]

theorem acceptInt_withFailsAt {d : Byte} {s t : State} (o : Option Nat) (h : s.acceptInt d = .next t) :
    (s.withFailsAt o).acceptInt d = .next (t.withFailsAt o) := by
  obtain ⟨him, hd, rfl⟩ | ⟨him, rfl⟩ | ⟨him, rfl⟩ := State.acceptInt_next h
  · simp [State.acceptInt, him, hd, State.enterHandler_eq, State.withFailsAt, State.tick]
  · simp [State.acceptInt, him, State.enterHandler_eq, State.withFailsAt, State.tick]
  · simp [State.acceptInt, him, State.enterHandler_eq, State.memRead16_eq, State.withFailsAt, State.tick]

/-! ### The step -/

@[simp] theorem Bus.madeFailing_withFailsAt_none (n : Nat) (b : Bus) :
    (b.withFailsAt none).madeFailing n = false := rfl

@[simp] theorem Bus.madeFailing_withFailsAt_some (n m : Nat) (b : Bus) :
    (b.withFailsAt (some m)).madeFailing n = (decide (n ≤ m) && decide (m < b.trace.length)) := rfl

/-- The guard of a state without a failure, with the access `m` failing. -/
theorem guardBus_withFailsAt_some {n m : Nat} {t : State} (ht : t.bus.failed = false) :
    guardBus n (.next (t.withFailsAt (some m))) =
      if n ≤ m ∧ m < t.bus.trace.length then .fault .bus else .next (t.withFailsAt (some m)) := by
  simp [guardBus, ht]

/-- A step without an access meets no failing one. -/
theorem guardBus_withFailsAt_of_no_access {o : Option Nat} {t : State} (ht : t.bus.failed = false) :
    guardBus t.bus.trace.length (.next (t.withFailsAt o)) = .next (t.withFailsAt o) := by
  cases o with
  | none => simp [guardBus, ht]
  | some m => rw [guardBus_withFailsAt_some ht, if_neg (by omega)]

/-- A step that goes on: with another choice of the failing access, the guard alone decides. -/
theorem step_withFailsAt {s t : State} (o : Option Nat) (h : step s = .next t) :
    step (s.withFailsAt o) = guardBus s.bus.trace.length (.next (t.withFailsAt o)) := by
  have hf := (step_next h).1
  obtain hn | ⟨d, hn, hd, ha⟩ | ⟨hq, hh⟩ | ⟨hq, hh⟩ := boundary_cases s
  · rw [step_of_nmiPending hf hn, guardBus_next] at h
    obtain ⟨ht, -, -⟩ := h
    cases ht
    rw [step_of_nmiPending (s := s.withFailsAt o) hf hn, ← acceptNmi_withFailsAt]
    rfl
  · rw [step_of_intPending hf hn hd ha] at h
    rw [step_of_intPending (s := s.withFailsAt o) hf hn hd ha]
    exact guardBus_congr_withFailsAt o (fun _ => acceptInt_withFailsAt o) h
  · rw [step_of_halted hf hq hh] at h
    cases h
    rw [step_of_halted (s := s.withFailsAt o) hf hq hh]
    have hguard := guardBus_withFailsAt_of_no_access (o := o)
      (t := State.haltedStep { s with tStates := 0, eiDelay := false }) hf
    exact hguard.symm
  · rw [step_of_running hf hq hh] at h
    rw [step_of_running (s := s.withFailsAt o) hf hq hh]
    have hrun := runInstruction_withFailsAt o h
    exact hrun

/-- Settles O54: the guard of the step asks whether the access `n` was made in it. -/
theorem busFailureEndsTheStep : Obligations.BusFailureEndsTheStep := by
  refine ⟨fun s t n _ h => ?_, fun s t => step_unfailed, fun s => step_of_failed⟩
  have hstep := (step_withFailsAt (some n) h).trans (guardBus_withFailsAt_some (step_unfailed h))
  exact ⟨fun hle hlt => hstep.trans (if_pos ⟨hle, hlt⟩), fun hn => hstep.trans (if_neg (by omega))⟩

end Sys2Proof.Machine
end

section
/-!
SUPPORT. Decoding and encoding (30_encoding.md R100 to R116): the fields of an opcode byte, the five tables opcode by
opcode, and the round trip in both directions.
-/

namespace Sys2Proof

open Sys2Proof.Machine Sys2Proof.Claims

/-! ## The fields of an opcode byte (R103) -/

section
variable {x y z : Nat} (hx : x < 4) (hy : y < 8) (hz : z < 8)
include hx hy hz

theorem toNat_opByte : (opByte x y z).toNat = x * 64 + y * 8 + z := by
  simp only [opByte, BitVec.toNat_ofNat]
  omega

@[simp] theorem fieldX_opByte : fieldX (opByte x y z) = x := by
  rw [fieldX, toNat_opByte hx hy hz]
  omega

@[simp] theorem fieldY_opByte : fieldY (opByte x y z) = y := by
  rw [fieldY, toNat_opByte hx hy hz]
  omega

@[simp] theorem fieldZ_opByte : fieldZ (opByte x y z) = z := by
  rw [fieldZ, toNat_opByte hx hy hz]
  omega

end

@[simp] theorem fieldX_ofNat (n : Nat) : fieldX (BitVec.ofNat 8 n) = n % 256 / 64 := rfl
@[simp] theorem fieldY_ofNat (n : Nat) : fieldY (BitVec.ofNat 8 n) = n % 256 / 8 % 8 := rfl
@[simp] theorem fieldZ_ofNat (n : Nat) : fieldZ (BitVec.ofNat 8 n) = n % 256 % 8 := rfl

/-! ## The codes of the operands (R104 to R106) -/

@[simp] theorem Reg8.code_lt (r : Reg8) : r.code < 8 := by cases r <;> decide
@[simp] theorem PReg.code_lt (r : PReg) : r.code < 8 := by cases r <;> decide
@[simp] theorem Cond.code_lt (cc : Cond) : cc.code < 8 := by cases cc <;> decide
@[simp] theorem toNat_lt_eight (b : BitVec 3) : b.toNat < 8 := b.isLt

@[simp] theorem Reg8.ofCode_code (r : Reg8) : Reg8.ofCode r.code = some r := by cases r <;> rfl
@[simp] theorem PReg.ofCode_code (r : PReg) : PReg.ofCode r.code = some r := by cases r <;> rfl
@[simp] theorem Cond.ofCode_code (cc : Cond) : Cond.ofCode cc.code = cc := by cases cc <;> rfl

/-- Code 110 is no register (R104). -/
@[simp] theorem Reg8.ofCode_six : Reg8.ofCode 6 = none := rfl

/-- Code 110 is no register (R104). -/
@[simp] theorem PReg.ofCode_six : PReg.ofCode 6 = none := rfl

/-! ## Lead-in bytes (R102, R111) -/

theorem IndexReg.ofByte_eq_some {b : Byte} {ii : IndexReg} : IndexReg.ofByte b = some ii ↔ b = ii.byte := by
  constructor
  · intro h
    unfold IndexReg.ofByte at h
    split at h <;> cases h <;> exact BitVec.eq_of_toNat_eq ‹_›
  · rintro rfl
    cases ii <;> rfl

theorem isXYByte_iff {b : Byte} : isXYByte b = true ↔ ∃ ii : IndexReg, b = ii.byte := by
  simp [isXYByte, Option.isSome_iff_exists, IndexReg.ofByte_eq_some]

theorem isXYByte_iff_eq {b : Byte} : isXYByte b = true ↔ b = 0xDD ∨ b = 0xFD := by
  revert b
  decide

theorem dropsPrefix_iff {b : Byte} : dropsPrefix b = true ↔ b = 0xED ∨ ∃ ii : IndexReg, b = ii.byte := by
  simp [dropsPrefix, isXYByte_iff, or_comm]

theorem isLeadByte_iff {b : Byte} :
    isLeadByte b = true ↔ b = 0xCB ∨ b = 0xED ∨ ∃ ii : IndexReg, b = ii.byte := by
  simp [isLeadByte, isXYByte_iff, or_assoc]

theorem isLeadByte_eq_or_dropsPrefix (b : Byte) : isLeadByte b = (b == 0xCB || dropsPrefix b) := by
  rw [isLeadByte, dropsPrefix, Bool.or_assoc, Bool.or_comm (b == 0xED)]

/-- The lead-in bytes by their fields: 0xCB is row 3 1 3, and 0xDD, 0xED, 0xFD are the rows 3 3 5, 3 5 5, 3 7 5. -/
theorem isLeadByte_eq_fields (b : Byte) :
    isLeadByte b = (fieldX b == 3 && (fieldY b == 1 && fieldZ b == 3 ||
      (fieldY b == 3 || fieldY b == 5 || fieldY b == 7) && fieldZ b == 5)) := by
  revert b
  decide

/-! ## The table of an item (R101, R102) -/

@[simp] theorem byteAt_cons_zero (b : Byte) (bytes : List Byte) : byteAt (b :: bytes) 0 = b := rfl
@[simp] theorem byteAt_cons_succ (b : Byte) (bytes : List Byte) (k : Nat) :
    byteAt (b :: bytes) (k + 1) = byteAt bytes k := rfl

section
variable {op : Byte} (h : isLeadByte op = false) (ii : IndexReg) (bytes : List Byte)
include h

theorem decodePadded_base :
    decodePadded (op :: bytes) = decodeBase op (byteAt bytes 0) (byteAt bytes 1) := by
  have hne : ¬(op = 0xCB ∨ op = 0xED ∨ ∃ ii : IndexReg, op = ii.byte) := by rw [← isLeadByte_iff, h]; decide
  have hxy : IndexReg.ofByte op = none := by
    cases ho : IndexReg.ofByte op with
    | none => rfl
    | some ii => exact absurd (.inr (.inr ⟨ii, IndexReg.ofByte_eq_some.mp ho⟩)) hne
  change decode4 op _ _ _ = _
  unfold decode4
  split
  · exact absurd (.inl (BitVec.eq_of_toNat_eq ‹_›)) hne
  · exact absurd (.inr (.inl (BitVec.eq_of_toNat_eq ‹_›))) hne
  · rw [hxy]; rfl

theorem decodePadded_xy :
    decodePadded (ii.byte :: op :: bytes) = decodeXY ii op (byteAt bytes 0) (byteAt bytes 1) := by
  have hne : ¬(op = 0xCB ∨ op = 0xED ∨ ∃ ii : IndexReg, op = ii.byte) := by rw [← isLeadByte_iff, h]; decide
  change decode4 ii.byte op _ _ = _
  unfold decode4
  rw [IndexReg.ofByte_eq_some.mpr rfl]
  split
  · cases ii <;> contradiction
  · cases ii <;> contradiction
  · simp only
    split
    · exact absurd (.inr (.inr ⟨.ix, BitVec.eq_of_toNat_eq ‹_›⟩)) hne
    · exact absurd (.inr (.inr ⟨.iy, BitVec.eq_of_toNat_eq ‹_›⟩)) hne
    · exact absurd (.inr (.inl (BitVec.eq_of_toNat_eq ‹_›))) hne
    · exact absurd (.inl (BitVec.eq_of_toNat_eq ‹_›)) hne
    · rfl

end

theorem decodePadded_cb (op : Byte) (bytes : List Byte) : decodePadded (0xCB#8 :: op :: bytes) = (decodeCB op, 2) := rfl

theorem decodePadded_ed (op : Byte) (bytes : List Byte) :
    decodePadded (0xED#8 :: op :: bytes) = decodeED op (byteAt bytes 0) (byteAt bytes 1) := rfl

theorem decodePadded_xycb (ii : IndexReg) (bytes : List Byte) :
    decodePadded (ii.byte :: 0xCB#8 :: bytes) = (decodeXYCB ii (byteAt bytes 0) (byteAt bytes 1), 4) := by
  cases ii <;> rfl

/-- A DD or FD byte before DD, FD or ED is an item of its own (R111 a, b). -/
theorem decodePadded_dropped (ii : IndexReg) {op : Byte} (h : dropsPrefix op = true) (bytes : List Byte) :
    decodePadded (ii.byte :: op :: bytes) = (.prefixXY ii, 1) := by
  obtain rfl | ⟨jj, rfl⟩ := dropsPrefix_iff.mp h
  · cases ii <;> rfl
  · cases ii <;> cases jj <;> rfl

/-! ## The five tables, opcode by opcode (R101, R103, R112, R113) -/

/-- What holds of every byte holds of each of the 256. -/
theorem forall_byte {P : Byte → Prop} (h : ∀ n < 256, P (BitVec.ofNat 8 n)) (b : Byte) : P b := by
  simpa using h b.toNat b.isLt

/-- What holds of the two bytes of every word holds of every two bytes. -/
theorem forall_operands {P : Byte → Byte → Prop} (h : ∀ nn, P (loByte nn) (hiByte nn)) (n m : Byte) : P n m := by
  simpa using h (mkWord m n)

/-- The item `r` consists of these opcode bytes and the first `k` of these operand bytes. -/
structure IsEntry (opcode operands : List Byte) (k : Nat) (r : Instr × Nat) : Prop where
  encode : encode r.1 = opcode ++ operands.take k
  length : r.2 = opcode.length + k

theorem decodeBase_entry (op : Byte) :
    ∃ k ≤ 2, ∀ n m, IsEntry [op] [n, m] k (decodeBase op n m) ∧ (decodeBase op n m).1.WellFormed = true ∧
      isLeadIn (decodeBase op n m).1 = isLeadByte op := by
  refine ⟨(decodeBase op 0 0).2 - 1, by revert op; decide, forall_operands fun nn => ?_⟩
  unfold decodeBase
  simp only [mkWord_hiByte_loByte]
  induction op using forall_byte with
  | h n hn => interval_cases n <;> exact ⟨⟨rfl, rfl⟩, rfl, rfl⟩

theorem decodeED_entry (op : Byte) :
    ∃ k ≤ 2, ∀ n m, IsEntry [0xED, op] [n, m] k (decodeED op n m) ∧ (decodeED op n m).1.WellFormed = true ∧
      isLeadIn (decodeED op n m).1 = false := by
  refine ⟨(decodeED op 0 0).2 - 2, by revert op; decide, forall_operands fun nn => ?_⟩
  unfold decodeED
  simp only [mkWord_hiByte_loByte]
  induction op using forall_byte with
  | h n hn => interval_cases n <;> exact ⟨⟨rfl, rfl⟩, rfl, rfl⟩

theorem decodeXY_entry (ii : IndexReg) (op : Byte) :
    ∃ k ≤ 2, ∀ n m, IsEntry [ii.byte, op] [n, m] k (decodeXY ii op n m) ∧
      (decodeXY ii op n m).1.WellFormed = !isLeadByte op ∧ isLeadIn (decodeXY ii op n m).1 = false := by
  refine ⟨(decodeXY ii op 0 0).2 - 2, by revert op; cases ii <;> decide, forall_operands fun nn => ?_⟩
  unfold decodeXY decodeXYRow decodeXY0 decodeBase
  simp only [mkWord_hiByte_loByte]
  induction op using forall_byte with
  | h n hn => interval_cases n <;> exact ⟨⟨rfl, rfl⟩, rfl, rfl⟩

theorem decodeCB_entry (op : Byte) :
    encode (decodeCB op) = [0xCB, op] ∧ (decodeCB op).WellFormed = true ∧ isLeadIn (decodeCB op) = false := by
  induction op using forall_byte with
  | h n hn => interval_cases n <;> exact ⟨rfl, rfl, rfl⟩

theorem decodeXYCB_entry (ii : IndexReg) (d op : Byte) :
    encode (decodeXYCB ii d op) = [ii.byte, 0xCB, d, op] ∧ (decodeXYCB ii d op).WellFormed = true ∧
      isLeadIn (decodeXYCB ii d op) = false := by
  induction op using forall_byte with
  | h n hn => interval_cases n <;> exact ⟨rfl, rfl, rfl⟩

/-- An ED opcode that no other row takes is the two-byte no-operation (R112). -/
theorem decodeED_of_not_taken (op : Byte) (h : edTaken op = false) (lo hi : Byte) :
    decodeED op lo hi = (.edNop op, 2) := by
  induction op using forall_byte with
  | h n hn => interval_cases n <;> simp [edTaken] at h <;> rfl

/-! ## The opcode bytes of an item -/

/-- The bytes of an instruction that are fetched with M1 (R102, R114): one, or two where the first is a lead-in byte
that is not dropped. -/
inductive IsOpcode : List Byte → Prop where
  | base {b : Byte} (hb : isLeadByte b = false) : IsOpcode [b]
  | prefixed {b op : Byte} (hb : isLeadByte b = true) (hop : isXYByte b = true → dropsPrefix op = false) :
    IsOpcode [b, op]

/-- The opcode bytes fix how many operand bytes follow; with these they are a well-formed instruction. -/
theorem IsOpcode.entry {opcode : List Byte} (h : IsOpcode opcode) :
    ∃ k ≤ 2, ∀ operands, IsEntry opcode [byteAt operands 0, byteAt operands 1] k (decodePadded (opcode ++ operands)) ∧
      (decodePadded (opcode ++ operands)).1.WellFormed = true ∧
      isLeadIn (decodePadded (opcode ++ operands)).1 = false := by
  cases h with
  | @base b hb =>
    obtain ⟨k, hk, hentry⟩ := decodeBase_entry b
    refine ⟨k, hk, fun operands => ?_⟩
    rw [List.singleton_append, decodePadded_base hb, ← hb]
    exact hentry _ _
  | @prefixed b op hb hop =>
    obtain rfl | rfl | ⟨ii, rfl⟩ := isLeadByte_iff.mp hb
    · obtain ⟨henc, hrest⟩ := decodeCB_entry op
      exact ⟨0, by decide, fun operands => ⟨⟨henc, rfl⟩, hrest⟩⟩
    · obtain ⟨k, hk, hentry⟩ := decodeED_entry op
      exact ⟨k, hk, fun operands => hentry _ _⟩
    · have hop := hop (isXYByte_iff.mpr ⟨ii, rfl⟩)
      by_cases hcb : op = 0xCB#8
      · subst hcb
        refine ⟨2, le_rfl, fun operands => ?_⟩
        obtain ⟨henc, hrest⟩ := decodeXYCB_entry ii (byteAt operands 0) (byteAt operands 1)
        rw [List.cons_append, List.singleton_append, decodePadded_xycb]
        exact ⟨⟨henc, rfl⟩, hrest⟩
      · have hlead : isLeadByte op = false := by
          rw [isLeadByte_eq_or_dropsPrefix, hop]
          simpa using hcb
        obtain ⟨k, hk, hentry⟩ := decodeXY_entry ii op
        refine ⟨k, hk, fun operands => ?_⟩
        rw [List.cons_append, List.singleton_append, decodePadded_xy hlead]
        simpa [hlead] using hentry (byteAt operands 0) (byteAt operands 1)

/-- A first byte is an opcode, or is one with the byte after it, or is dropped before that (R102, R111). -/
theorem opcode_cases (b op : Byte) :
    IsOpcode [b] ∨ IsOpcode [b, op] ∨ dropsPrefix op = true ∧ ∃ ii : IndexReg, b = ii.byte := by
  cases hb : isLeadByte b with
  | false => exact .inl (.base hb)
  | true =>
    by_cases h : isXYByte b = true ∧ dropsPrefix op = true
    · exact .inr (.inr ⟨h.2, isXYByte_iff.mp h.1⟩)
    · exact .inr (.inl (.prefixed hb fun hxy => by simpa [hxy] using h))

/-! ## Decoding a list of bytes -/

theorem decode_of_length_le {bytes : List Byte} (hne : bytes ≠ []) (h : (decodePadded bytes).2 ≤ bytes.length) :
    decode bytes = .ok ((decodePadded bytes).1, bytes.drop (decodePadded bytes).2) := by
  cases bytes with
  | nil => exact absurd rfl hne
  | cons b rest => exact if_pos h

/-- A first byte with any bytes after it reads as a well-formed item (R115). -/
theorem wellFormed_decodePadded (b : Byte) (bytes : List Byte) : (decodePadded (b :: bytes)).1.WellFormed = true := by
  have hpad : decodePadded (b :: bytes) = decodePadded ([b, byteAt bytes 0] ++ bytes.tail) := by cases bytes <;> rfl
  obtain h | h | ⟨hop, ii, rfl⟩ := opcode_cases b (byteAt bytes 0)
  · obtain ⟨k, -, hentry⟩ := h.entry
    obtain ⟨-, hw, -⟩ := hentry bytes
    exact hw
  · obtain ⟨k, -, hentry⟩ := h.entry
    obtain ⟨-, hw, -⟩ := hentry bytes.tail
    rw [hpad]
    exact hw
  · rw [hpad, List.cons_append, List.singleton_append, decodePadded_dropped ii hop]
    rfl

/-- Four bytes are read as one to four of them (R115, R116). -/
theorem decodePadded_four (b0 b1 b2 b3 : Byte) :
    ∃ k, 0 < k ∧ k ≤ 4 ∧ IsEntry [] [b0, b1, b2, b3] k (decodePadded [b0, b1, b2, b3]) := by
  obtain h | h | ⟨hop, ii, rfl⟩ := opcode_cases b0 b1
  · obtain ⟨k, hk, hentry⟩ := h.entry
    obtain ⟨⟨henc, hlen⟩, -⟩ := hentry [b1, b2, b3]
    exact ⟨1 + k, by omega, by omega, henc.trans (by interval_cases k <;> rfl), hlen.trans (Nat.zero_add _).symm⟩
  · obtain ⟨k, hk, hentry⟩ := h.entry
    obtain ⟨⟨henc, hlen⟩, -⟩ := hentry [b2, b3]
    exact ⟨2 + k, by omega, by omega, henc.trans (by interval_cases k <;> rfl), hlen.trans (Nat.zero_add _).symm⟩
  · rw [decodePadded_dropped ii hop]
    exact ⟨1, by decide, by decide, rfl, rfl⟩

/-- Settles O58: the opcode bytes that the four begin with fix the item, and each table encodes back to what it read. -/
theorem encodeOfDecode : Obligations.EncodeOfDecode := by
  intro b0 b1 b2 b3
  obtain ⟨k, hpos, hle, henc, hlen⟩ := decodePadded_four b0 b1 b2 b3
  rw [List.length_nil, Nat.zero_add] at hlen
  rw [List.nil_append] at henc
  refine ⟨_, _, decode_of_length_le (by simp) (by simpa [hlen] using hle), wellFormed_decodePadded _ _, ?_, ?_⟩
  · rw [henc, hlen, List.take_append_drop]
  · simpa [henc] using hpos.ne'

/-! ## A BASE instruction behind an ignored prefix (R113, R531) -/

section
variable {base : Instr} (h : base.isFallbackBase = true)
include h

theorem Instr.wellFormed_of_isFallbackBase : base.WellFormed = true := by
  cases base <;> first | rfl | exact h | cases h

theorem isLeadIn_of_isFallbackBase : isLeadIn base = false := by
  cases base <;> first | rfl | cases h

theorem encode_of_isFallbackBase : encode base = encodeRow base := by
  cases base <;> first | rfl | cases h

/-- Its opcode is no lead-in byte, and table XY has no row for it. -/
theorem encodeRow_of_isFallbackBase :
    ∃ op operands, encodeRow base = op :: operands ∧ isLeadByte op = false ∧
      ∀ ii n m, decodeXYRow ii op n m = none := by
  cases base
  case rstP t =>
    exact ⟨_, _, rfl, by simp [isLeadByte_eq_fields], fun _ _ _ => by simp [decodeXYRow, decodeXY3]⟩
  case' jrCcE cc _ | jpCcNn cc _ | callCcNn cc _ | retCc cc => cases cc
  case' ldDdNn p _ | incSs p | decSs p | pushQq p | popQq p => cases p
  all_goals first | exact ⟨_, _, rfl, rfl, fun _ _ _ => rfl⟩ | cases h

end

/-! ## Decoding what was encoded -/

/-- `JR cc,e` has the codes 4 to 7 (R106, R473). -/
theorem Cond.code_add_four_lt {cc : Cond} (h : cc.isShort = true) : cc.code + 4 < 8 := by
  cases cc <;> first | decide | cases h

/-- The don't-care bits of `RETN` are not those of `RETI` (R482). -/
theorem toNat_ne_one_of_wellFormed {x : BitVec 3} (h : (Instr.retn x).WellFormed = true) : x.toNat ≠ 1 := fun hx =>
  bne_iff_ne.mp h (BitVec.eq_of_toNat_eq hx)

/-- An instruction's bytes, whatever follows them, read as the instruction and its length. The fields of the opcode
byte give back the codes that were put in; pairs, the conditions of don't-care bits, and the bytes of the ED
no-operations are told apart one by one. -/
theorem decodePadded_encode {i : Instr} (hw : i.WellFormed = true) (hl : isLeadIn i = false) (rest : List Byte) :
    decodePadded (encode i ++ rest) = (i, (encode i).length) := by
  induction i
  case prefixCB | prefixED | prefixXY => cases hl
  case edNop x => exact decodeED_of_not_taken x (by simpa [Instr.WellFormed] using hw) _ _
  case xyFallback ii base ih =>
    obtain ⟨op, operands, henc, hlead, hrow⟩ := encodeRow_of_isFallbackBase hw
    have hbase := ih (Instr.wellFormed_of_isFallbackBase hw) (isLeadIn_of_isFallbackBase hw)
    rw [encode_of_isFallbackBase hw, henc, List.cons_append, decodePadded_base hlead] at hbase
    rw [encode, henc, List.cons_append, List.cons_append, decodePadded_xy hlead, decodeXY, hrow, hbase]
    rfl
  case' ldDdNn p _ | ldDdAtNn p _ | ldAtNnDd p _ | addHLSs p | adcHLSs p | sbcHLSs p | incSs p | decSs p | pushQq p
      | popQq p | addIiPp _ p => cases p
  case' im0 x5 x3 => cases x5 <;> cases x3
  case' im1 x5 | im2 x5 => cases x5
  case' jrCcE cc _ => have hcode := Cond.code_add_four_lt hw
  case' retn x => have hx := toNat_ne_one_of_wellFormed hw
  all_goals
    simp [*, encode, encodeRow, encodeWord, encodeCB, encodeED, encodeXY, encodeXYCB, decodePadded_cb, decodePadded_ed,
      decodePadded_xycb, decodePadded_base, decodePadded_xy, isLeadByte_eq_fields, decodeBase, decodeCB, decodeED,
      decodeXYCB, decodeXY, decodeXYRow, decodeBase0, decodeBase1, decodeBase2, decodeBase3, decodeED1, decodeED2,
      decodeXY0, decodeXY1, decodeXY2, decodeXY3, rotR, rotAtHL, rotIdx, rotIdxR, aluR, aluAtHL, aluN, aluP, aluIdx,
      RP.code, RP2.code, RPI.code, RP.ofCode, RP2.ofCode, RPI.ofCode]

theorem encode_ne_nil {i : Instr} (hw : i.WellFormed = true) (hl : isLeadIn i = false) : encode i ≠ [] := by
  intro h
  have hnop := decodePadded_encode hw hl [0x00]
  rw [h] at hnop
  have hlen : (1 : Nat) = 0 := congrArg Prod.snd hnop
  exact absurd hlen (by decide)

/-- Settles O57: by `decodePadded_encode` the item read is the instruction and its length, and the rest is what is left;
a lead-in byte alone is decoded by evaluation. -/
theorem decodeOfEncode : Obligations.DecodeOfEncode := by
  refine fun i hw => ⟨fun hl rest => ?_, fun hl => ?_⟩
  · have hread := decodePadded_encode hw hl rest
    rw [decode_of_length_le (by simp [encode_ne_nil hw hl]) (by simp [hread]), hread, List.drop_left]
  · cases i
    case prefixXY ii => cases ii <;> rfl
    case prefixCB | prefixED => rfl
    all_goals cases hl

end Sys2Proof
end

section
/-!
SUPPORT. Words, selectors and completion (30_encoding.md R104, R105, R113, R115, R120; 60_exceptions.md R150).
-/

namespace Sys2Proof.Machine

open Sys2Proof.Claims

/-- Settles O56: each word is decoded by evaluation. -/
theorem decodeOfWrittenOutWords : Obligations.DecodeOfWrittenOutWords :=
  ⟨rfl, rfl, rfl, rfl, rfl, rfl, rfl, rfl, rfl, rfl, rfl, rfl, rfl, rfl, rfl, rfl, rfl⟩

/-- Settles O13: each selector's code is evaluated, under IX and under IY. -/
theorem selectorsReadAndWriteTheNamedRegister : Obligations.SelectorsReadAndWriteTheNamedRegister := by
  intro s ii v w
  cases ii <;>
    exact ⟨⟨rfl, rfl, rfl, rfl, rfl, rfl, rfl⟩, ⟨rfl, rfl, rfl, rfl, rfl, rfl, rfl⟩,
      ⟨rfl, rfl, rfl, rfl, rfl, rfl, rfl⟩, ⟨rfl, rfl, rfl, rfl, rfl, rfl, rfl⟩, ⟨rfl, rfl, rfl, rfl⟩,
      ⟨rfl, rfl, rfl, rfl⟩, ⟨rfl, rfl, rfl, rfl⟩, ⟨rfl, rfl, rfl, rfl⟩, ⟨rfl, rfl, rfl, rfl⟩⟩

/-- Only an ill-formed fallback is refused (R115, R150). -/
theorem exec_completes {i : Instr} (hw : i.WellFormed = true) (s : State) : ∃ t, exec i s = .next t := by
  induction i generalizing s with
  | xyFallback ii base ih =>
    obtain ⟨t, ht⟩ := ih (Instr.wellFormed_of_isFallbackBase hw) (s.tick 4)
    exact ⟨t, exec_xyFallback_next_iff.mpr ⟨hw, ht⟩⟩
  | _ => exact ⟨_, rfl⟩

/-- Settles O40: `exec_completes` says it. -/
theorem everyWellFormedInstructionCompletes : Obligations.EveryWellFormedInstructionCompletes :=
  fun _ s hw => exec_completes hw s

/-- Settles O39: the rows by evaluation; a fallback is its BASE instruction run after `tick 4`, which completes. -/
theorem prefixRowsAndFallback : Obligations.PrefixRowsAndFallback := by
  refine fun s ii => ⟨rfl, rfl, rfl, fun base hb => ?_⟩
  obtain ⟨t, ht⟩ := exec_completes (Instr.wellFormed_of_isFallbackBase hb) (s.tick 4)
  exact ⟨t, exec_xyFallback_next_iff.mpr ⟨hb, ht⟩, ht⟩

end Sys2Proof.Machine
end

section
/-!
SUPPORT. The fetch of an item and the rounds of a step (30_encoding.md R102, R111, R114; 20_memory.md R73).
-/

namespace Sys2Proof.Machine

open Sys2Proof.Claims

/-! ## Fetching -/

theorem fetched_succ (n : Nat) (b : Bus) (a : Word) :
    fetched (n + 1) b a =
      ((b.fetch a).1 :: (fetched n (b.fetch a).2 (a + 1)).1, (fetched n (b.fetch a).2 (a + 1)).2) := rfl

@[simp] theorem length_fetched (n : Nat) (b : Bus) (a : Word) : (fetched n b a).1.length = n := by
  induction n generalizing b a with
  | zero => rfl
  | succ k ih => exact congrArg (· + 1) (ih _ _)

/-- The state after `n` fetches, `m` of them with M1. -/
def State.afterFetch (n m : Nat) (s : State) : State :=
  { s with pc := s.pc + BitVec.ofNat 16 n, r := bumpRTimes m s.r, bus := (fetched n s.bus s.pc).2 }

theorem State.fetchM1_eq_afterFetch (s : State) : s.fetchM1 = ((s.bus.fetch s.pc).1, s.afterFetch 1 1) := rfl

theorem add_one_add_ofNat (a : Word) (n : Nat) : a + 1 + BitVec.ofNat 16 n = a + BitVec.ofNat 16 (n + 1) := by
  rw [BitVec.add_assoc, Nat.add_comm n 1, BitVec.ofNat_add]
  rfl

/-- Fetches after one with M1. -/
theorem State.afterFetch_one (n m : Nat) (s : State) :
    (s.afterFetch 1 1).afterFetch n m = s.afterFetch (n + 1) (m + 1) := by
  change { s with pc := s.pc + 1 + BitVec.ofNat 16 n, r := _, bus := _ } = _
  rw [add_one_add_ofNat]
  rfl

theorem State.fetchBytes_eq_fetched (n : Nat) (s : State) :
    s.fetchBytes n = ((fetched n s.bus s.pc).1, s.afterFetch n 0) := by
  have h : (s.fetchBytes n).1 = (fetched n s.bus s.pc).1 ∧ (s.fetchBytes n).2.bus = (fetched n s.bus s.pc).2 := by
    induction n generalizing s with
    | zero => exact ⟨rfl, rfl⟩
    | succ k ih =>
      obtain ⟨hbytes, hbus⟩ := ih s.fetchByte.2
      exact ⟨congrArg _ hbytes, hbus⟩
  obtain ⟨hbytes, hbus⟩ := h
  refine Prod.ext hbytes ?_
  rw [State.fetchBytes_eq, hbus]
  rfl

/-! ## One item -/

theorem isLeadIn_of_leadIn {b : Byte} {i : Instr} (h : leadIn b = some i) : isLeadIn i = true := by
  unfold leadIn at h
  split at h <;> cases h <;> rfl

/-- Bytes that are exactly one instruction. -/
theorem decodePadded_of_decode {bytes : List Byte} {i : Instr} (h : decode bytes = .ok (i, []))
    (hl : isLeadIn i = false) : decodePadded bytes = (i, bytes.length) := by
  cases bytes with
  | nil => cases h
  | cons b rest =>
    simp only [decode] at h
    split at h
    · simp only [Except.ok.injEq, Prod.mk.injEq, List.drop_eq_nil_iff] at h
      exact Prod.ext h.1 (Nat.le_antisymm ‹_› h.2)
    · split at h
      · cases h
        rw [isLeadIn_of_leadIn ‹_›] at hl
        cases hl
      · cases h

theorem wellFormed_of_decode {bytes : List Byte} {i : Instr} (h : decode bytes = .ok (i, []))
    (hl : isLeadIn i = false) : i.WellFormed = true := by
  have hread := decodePadded_of_decode h hl
  cases bytes with
  | nil => cases h
  | cons b rest =>
    have hw := wellFormed_decodePadded b rest
    rwa [hread] at hw

section
variable {n : Nat} {opcode rest : List Byte} {i : Instr} {s : State}

/-- An item is run as the instruction that its opcode bytes and the bytes after them are. -/
theorem runItem_of_decodePadded (h : IsOpcode opcode)
    (hread : decodePadded (opcode ++ rest) = (i, (opcode ++ rest).length))
    (hf : (fetched rest.length s.bus s.pc).1 = rest) :
    runItem n opcode s = guardBus n (exec i (s.afterFetch rest.length 0)) := by
  obtain ⟨k, -, hentry⟩ := h.entry
  obtain ⟨⟨-, hlen⟩, -⟩ := hentry []
  obtain ⟨⟨-, hlen'⟩, -⟩ := hentry rest
  rw [List.append_nil] at hlen
  rw [hread, List.length_append] at hlen'
  rw [runItem, State.fetchOperands, hlen, Nat.add_sub_cancel_left, ← Nat.add_left_cancel hlen',
    State.fetchBytes_eq_fetched, hf, hread]

end

section
variable {n left : Nat} {b : Byte} {s : State}

/-- The round of an opcode of table BASE (R102). -/
theorem runItems_one (h : IsOpcode [b]) : runItems n (left + 1) b s = runItem n [b] s := by
  cases h with
  | base hb =>
    have hxy : isXYByte b = false := (Bool.or_eq_false_iff.mp hb).2
    exact runItems_of_base (by simpa [isXYByte] using hxy) hb

/-- The round of a lead-in byte with its opcode (R102). -/
theorem runItems_two (h : IsOpcode [b, s.fetchM1.1]) (hleft : isXYByte b = true → left ≠ 0) :
    runItems n (left + 1) b s = runItem n [b, s.fetchM1.1] s.fetchM1.2 := by
  cases h with
  | prefixed hlead hdrop =>
    cases hb : IndexReg.ofByte b with
    | none => exact runItems_of_lead hb hlead
    | some ii =>
      have hxy : isXYByte b = true := by rw [isXYByte, hb]; rfl
      exact runItems_of_prefixed hb (hleft hxy) (hdrop hxy)

/-- A chain that goes on does not end at its last prefix (R111 e). -/
theorem ne_zero_of_runItems_next {t : State} (h : runItems n (left + 1) b s = .next t) (hxy : isXYByte b = true) :
    left ≠ 0 := by
  rintro rfl
  obtain ⟨ii, rfl⟩ := isXYByte_iff.mp hxy
  exact runItems_last_ne_next (IndexReg.ofByte_eq_some.mpr rfl) h

/-- A lead-in byte is no whole item (R102). -/
theorem length_ne_one_of_isLeadByte : ∀ b : Byte, isLeadByte b = true → (decodePadded [b]).2 ≠ 1 := by decide

theorem m1Fetches_of_not_isLeadByte {i : Instr} (hb : isLeadByte b = false) : m1Fetches b i = 1 := by
  simp [m1Fetches, hb]

theorem isDroppedPrefix_of_not_isLeadIn {i : Instr} (hl : isLeadIn i = false) : isDroppedPrefix i = false := by
  cases i with
  | prefixXY ii => cases hl
  | _ => rfl

theorem m1Fetches_of_isLeadByte {i : Instr} (hb : isLeadByte b = true) (hl : isLeadIn i = false) :
    m1Fetches b i = 2 := by
  simp [m1Fetches, hb, isDroppedPrefix_of_not_isLeadIn hl]

/-- An item whose first byte has been fetched is run as the instruction that its bytes decode to (R102). -/
theorem runItems_of_decode {rest : List Byte} {i : Instr} (hdec : decode (b :: rest) = .ok (i, []))
    (hl : isLeadIn i = false) (hf : (fetched rest.length s.bus s.pc).1 = rest) (hleft : isXYByte b = true → left ≠ 0) :
    runItems n (left + 1) b s = guardBus n (exec i (s.afterFetch rest.length (m1Fetches b i - 1))) := by
  have hread := decodePadded_of_decode hdec hl
  have hlead (hb : isLeadByte b = true) : ∃ operands, rest = s.fetchM1.1 :: operands ∧
      (fetched operands.length s.fetchM1.2.bus s.fetchM1.2.pc).1 = operands := by
    cases rest with
    | nil => exact absurd (congrArg Prod.snd hread) (length_ne_one_of_isLeadByte b hb)
    | cons op operands => exact ⟨operands, congrArg (· :: operands) (List.cons.inj hf).1.symm, (List.cons.inj hf).2⟩
  obtain h | h | ⟨hop, ii, rfl⟩ := opcode_cases b s.fetchM1.1
  · cases h with
    | base hb =>
      rw [runItems_one (.base hb), m1Fetches_of_not_isLeadByte hb]
      exact runItem_of_decodePadded (.base hb) hread hf
  · cases h with
    | prefixed hb hop =>
      obtain ⟨operands, rfl, hrest⟩ := hlead hb
      rw [runItems_two (.prefixed hb hop) hleft, m1Fetches_of_isLeadByte hb hl,
        runItem_of_decodePadded (.prefixed hb hop) hread hrest]
      exact congrArg (fun u => guardBus n (exec i u)) (State.afterFetch_one operands.length 0 s)
  · obtain ⟨operands, rfl, -⟩ := hlead (isLeadByte_iff.mpr (.inr (.inr ⟨ii, rfl⟩)))
    rw [decodePadded_dropped ii hop] at hread
    cases hread

end

/-- The guard of a step that has reached `t`. -/
theorem stepsTo_of_guardBus {s t : State} (hs : s.Extends t) (h : step s = guardBus s.bus.trace.length (.next t)) :
    StepsTo s t := by
  obtain ⟨m, hbus⟩ := hs.bus
  have hiff : FailedIn s t ↔ (t.bus.failed || t.bus.madeFailing s.bus.trace.length) = true := by
    rw [FailedIn, Bool.or_eq_true, Bus.madeFailing, hbus.failsAt]
    cases s.bus.failsAt <;> simp
  rw [StepsTo, hiff, h, guardBus]
  exact ⟨fun hn => if_neg hn, fun hf => if_pos hf⟩

/-- One M1 fetch or more (R114). -/
theorem m1Fetches_pos (b : Byte) (i : Instr) : 0 < m1Fetches b i := by
  unfold m1Fetches
  split
  · decide
  · split <;> decide

/-- Fetching is a run of accesses. -/
theorem State.extends_afterFetch (n m : Nat) (s : State) : s.Extends (s.afterFetch n m) := by
  have h := s.extends_fetchBytes n
  rw [State.fetchBytes_eq_fetched] at h
  exact ⟨rfl, n, h⟩

/-- The instruction whose bytes the bus agent answers from PC on is run, with the guard at its end (R102). -/
theorem runInstruction_of_decode {s : State} {n : Nat} {i : Instr}
    (hdec : decode (fetched (n + 1) s.bus s.pc).1 = .ok (i, [])) (hl : isLeadIn i = false) :
    s.runInstruction = guardBus s.bus.trace.length
      (exec i (s.afterFetch (n + 1) (m1Fetches (s.bus.fetch s.pc).1 i))) := by
  have hrun := runItems_of_decode (n := s.bus.trace.length) (left := 65535) (s := s.fetchM1.2) hdec hl
    (by rw [length_fetched]; rfl) fun _ => by decide
  have hm1 : m1Fetches (s.bus.fetch s.pc).1 i - 1 + 1 = m1Fetches (s.bus.fetch s.pc).1 i :=
    Nat.sub_add_cancel (m1Fetches_pos _ _)
  rw [length_fetched, State.fetchM1_eq_afterFetch, State.afterFetch_one, hm1] at hrun
  exact hrun

/-- Settles O45: the rounds of the step fetch the bytes that were decoded and run their instruction, which completes. -/
theorem stepRunsTheDecodedInstruction : Obligations.StepRunsTheDecodedInstruction := by
  intro s i n hq hh hf hdec hl
  cases n with
  | zero => cases hdec
  | succ k =>
    let s0 : State := { s with tStates := 0, eiDelay := false }
    have hs0 : s.Extends s0 := (State.Extends.refl s).of_same rfl rfl
    obtain ⟨t, ht⟩ := exec_completes (wellFormed_of_decode hdec hl)
      (s0.afterFetch (k + 1) (m1Fetches (s.bus.fetch s.pc).1 i))
    refine ⟨t, stepsTo_of_guardBus ((hs0.trans (s0.extends_afterFetch _ _)).trans (exec_extends ht)) ?_, ht⟩
    rw [step_of_running hf hq hh, runInstruction_of_decode (s := s0) hdec hl, ← ht]

end Sys2Proof.Machine
end

section
/-!
SUPPORT. R along a chain of dropped prefixes (30_encoding.md R111, R114; 10_state.md R27).
-/

namespace Sys2Proof.Machine

open Sys2Proof.Claims

/-! ## The refresh counter -/

theorem bumpR_counter :
    ∀ r : Byte, (bumpR r).toNat % 128 = (r.toNat % 128 + 1) % 128 ∧ bitOf (bumpR r) 7 = bitOf r 7 := by
  decide

/-- `n` M1 fetches advance the low seven bits by `n` and keep bit 7 (R27). -/
theorem bumpRTimes_counter (n : Nat) (r : Byte) :
    (bumpRTimes n r).toNat % 128 = (r.toNat % 128 + n) % 128 ∧ bitOf (bumpRTimes n r) 7 = bitOf r 7 := by
  induction n generalizing r with
  | zero => simp [bumpRTimes]
  | succ k ih =>
    obtain ⟨hlow, hhigh⟩ := ih (bumpR r)
    obtain ⟨hlow1, hhigh1⟩ := bumpR_counter r
    refine ⟨?_, hhigh.trans hhigh1⟩
    rw [bumpRTimes, hlow, hlow1]
    omega

/-! ## A chain of dropped prefixes -/

/-- The instruction at the end of a chain that goes on is run on a state with the R of the chain's M1 fetches, and with
the A of before. -/
theorem exec_of_runItems_next {pre bytes : List Byte} {i : Instr} (hdec : decode bytes = .ok (i, []))
    (hl : isLeadIn i = false) (hpre : ∀ x ∈ pre, isXYByte x = true)
    (hhead : pre ≠ [] → dropsPrefix (byteAt bytes 0) = true) {n k fuel : Nat} {b : Byte} {s t : State}
    (hf : b :: (fetched k s.bus s.pc).1 = pre ++ bytes) (h : runItems n fuel b s = .next t) :
    ∃ u, exec i u = .next t ∧ u.a = s.a ∧
      u.r = bumpRTimes (pre.length + (m1Fetches (byteAt bytes 0) i - 1)) s.r := by
  obtain ⟨left, rfl⟩ : ∃ left, fuel = left + 1 := by
    cases fuel with
    | zero => cases h
    | succ left => exact ⟨left, rfl⟩
  induction pre generalizing k left b s with
  | nil =>
    subst hf
    have hrun := runItems_of_decode (n := n) hdec hl (by rw [length_fetched]) (ne_zero_of_runItems_next h)
    rw [hrun, guardBus_next] at h
    obtain ⟨hx, -⟩ := h
    exact ⟨_, hx, rfl, by simp [State.afterFetch]⟩
  | cons p pre ih =>
    rw [List.cons_append, List.cons.injEq] at hf
    obtain ⟨rfl, hrest⟩ := hf
    have hxy := hpre b List.mem_cons_self
    have hpre' : ∀ x ∈ pre, isXYByte x = true := fun x hx => hpre x (List.mem_cons_of_mem _ hx)
    have hhead' : dropsPrefix (byteAt bytes 0) = true := hhead (by simp)
    have hleft := ne_zero_of_runItems_next h hxy
    obtain ⟨left, rfl⟩ := Nat.exists_eq_succ_of_ne_zero hleft
    cases k with
    | zero =>
      obtain ⟨-, rfl⟩ := List.append_eq_nil_iff.mp hrest.symm
      cases hdec
    | succ k =>
      have hdrop : dropsPrefix (byteAt (pre ++ bytes) 0) = true := by
        cases pre with
        | nil => exact hhead'
        | cons q pre => simp [dropsPrefix, hpre' q List.mem_cons_self]
      obtain ⟨ii, hii⟩ := isXYByte_iff.mp hxy
      rw [← hrest] at hdrop
      rw [runItems_of_dropped (IndexReg.ofByte_eq_some.mpr hii) hleft hdrop] at h
      obtain ⟨u, hx, ha, hr⟩ := ih hpre' (fun _ => hhead') (k := k) (s := s.fetchM1.2.tick 4) hrest left h
      exact ⟨u, hx, ha, by rw [hr, List.length_cons, Nat.add_right_comm]; rfl⟩

/-- `LD R,A` is the one instruction that writes R, with A; behind an ignored prefix too (R27, R312). -/
theorem exec_r {i : Instr} {s t : State} (h : exec i s = .next t) :
    t.r = if inner i = .ldRA then s.a else s.r := by
  obtain ⟨n, hx, hi⟩ := exec_inner h
  split
  · rename_i hr
    rw [hr] at hx
    cases hx
    rfl
  · rename_i hr
    obtain ⟨-, hR, -⟩ := Control.changes (exec_control hi hx)
    exact not_not.mp fun hne => hr (hR hne)

theorem m1Fetches_eq {b : Byte} {i : Instr} (hl : isLeadIn i = false) :
    m1Fetches b i = if some b ∈ [some 0xCB, some 0xED, some 0xDD, some 0xFD] then 2 else 1 := by
  have hlead : some b ∈ [some 0xCB, some 0xED, some 0xDD, some 0xFD] ↔ isLeadByte b = true := by
    revert b
    decide
  rw [if_congr hlead rfl rfl]
  cases hb : isLeadByte b with
  | true => exact m1Fetches_of_isLeadByte hb hl
  | false => exact m1Fetches_of_not_isLeadByte hb

theorem dropsPrefix_of_mem {b : Byte} (h : some b ∈ [some 0xDD, some 0xFD, some 0xED]) : dropsPrefix b = true := by
  revert b
  decide

/-- Settles O44: the chain hands its instruction a state with R advanced by the M1 fetches, and no instruction but
`LD R,A` writes R. -/
theorem refreshCounterAdvance : Obligations.RefreshCounterAdvance := by
  intro s t pre bytes i hq hh hf hpre hhead hdec hl h
  have hbus := (step_next h).1
  rw [step_of_running hbus hq hh] at h
  cases bytes with
  | nil => cases hdec
  | cons b0 rest =>
    obtain ⟨u, hx, ha, hr⟩ := exec_of_runItems_next
      (s := State.afterFetch 1 1 { s with tStates := 0, eiDelay := false })
      (k := pre.length + rest.length) hdec hl (fun x hx => isXYByte_iff_eq.mpr (hpre x hx))
      (fun hne => dropsPrefix_of_mem (hhead hne)) hf h
    have hcount : t.r = if inner i = .ldRA then s.a else bumpRTimes (pre.length + m1Fetches b0 i) s.r := by
      have hm1 := m1Fetches_pos b0 i
      rw [exec_r hx, ha, hr, ← Nat.sub_add_cancel hm1, ← Nat.add_assoc]
      rfl
    obtain ⟨hlow, hhigh⟩ := bumpRTimes_counter (pre.length + m1Fetches b0 i) s.r
    refine ⟨fun hi => hcount.trans (if_pos hi), fun hi => ?_⟩
    rw [hcount.trans (if_neg hi)]
    refine ⟨hlow.trans ?_, hhigh⟩
    rw [← Nat.add_assoc, m1Fetches_eq hl]
    rfl

end Sys2Proof.Machine
end

section
/-!
SUPPORT. Where a step stops (20_memory.md R86; 30_encoding.md R111, R115; 60_exceptions.md R150, R158, R208;
92_eei_decisions.md D13, D15): a bus agent on which no access can fail stays so, and a chain of prefixes is stuck
exactly when every byte of it is a prefix.
-/

namespace Sys2Proof.Machine

open Sys2Proof.Claims

/-! ## A bus agent on which no access can fail stays one -/

section
variable {b b' : Bus}

/-- The fixed part decides what can fail; of the own state only whether something has. -/
theorem quiet_iff_of_extends {n : Nat} (h : b.Extends b' n) (hf : Quiet b → b'.failed = false) :
    Quiet b' ↔ Quiet b := by
  have hfixed : Quiet b' ↔ b'.failed = false ∧ Quiet { b with failed := false } := by
    simp only [Quiet, Bus.memAnswer, Bus.portAnswer, h.memMap, h.portMap, h.failsAt, true_and]
  rw [hfixed]
  constructor
  · rintro ⟨hb', -, hq⟩
    refine ⟨?_, hq⟩
    by_contra hb
    rw [h.failed (by simpa using hb)] at hb'
    cases hb'
  · exact fun hq => ⟨hf hq, rfl, hq.2⟩

@[simp] theorem quiet_read (a : Word) : Quiet (b.read a).2 ↔ Quiet b := by
  refine quiet_iff_of_extends (b.extends_read a) fun ⟨hb, _, hmem, _, hfun, _⟩ => ?_
  rw [← hb, Bus.read, Bus.answerRead]
  cases ha : b.memAnswer a with
  | functions =>
    obtain ⟨x, hx⟩ := Option.ne_none_iff_exists'.mp (hfun a ha b.own).1
    rw [hx]
    rfl
  | fails => exact absurd ha (hmem a)
  | _ => rfl

@[simp] theorem quiet_fetch (a : Word) : Quiet (b.fetch a).2 ↔ Quiet b := by
  refine quiet_iff_of_extends (b.extends_fetch a) fun hq => ?_
  rw [Bus.fetch_eq_read]
  exact ((quiet_read a).mpr hq).1

@[simp] theorem quiet_write (a : Word) (v : Byte) : Quiet (b.write a v) ↔ Quiet b := by
  refine quiet_iff_of_extends (b.extends_write a v) fun ⟨hb, _, hmem, _, hfun, _⟩ => ?_
  rw [← hb, Bus.write, Bus.answerWrite]
  cases ha : b.memAnswer a with
  | functions =>
    obtain ⟨x, hx⟩ := Option.ne_none_iff_exists'.mp ((hfun a ha b.own).2 v)
    rw [hx]
    rfl
  | fails => exact absurd ha (hmem a)
  | _ => rfl

@[simp] theorem quiet_readPort (p : Word) : Quiet (b.readPort p).2 ↔ Quiet b := by
  refine quiet_iff_of_extends (b.extends_readPort p) fun ⟨hb, _, _, hport, _, hfun⟩ => ?_
  rw [← hb, Bus.readPort, Bus.answerPortRead]
  cases hp : b.portAnswer p with
  | functions =>
    obtain ⟨x, hx⟩ := Option.ne_none_iff_exists'.mp (hfun p hp b.own).1
    rw [hx]
    rfl
  | fails => exact absurd hp (hport p)
  | _ => rfl

@[simp] theorem quiet_writePort (p : Word) (v : Byte) : Quiet (b.writePort p v) ↔ Quiet b := by
  refine quiet_iff_of_extends (b.extends_writePort p v) fun ⟨hb, _, _, hport, _, hfun⟩ => ?_
  rw [← hb, Bus.writePort, Bus.answerPortWrite]
  cases hp : b.portAnswer p with
  | functions =>
    obtain ⟨x, hx⟩ := Option.ne_none_iff_exists'.mp ((hfun p hp b.own).2 v)
    rw [hx]
    rfl
  | fails => exact absurd hp (hport p)
  | _ => rfl

@[simp] theorem quiet_fetched (n : Nat) (a : Word) : Quiet (fetched n b a).2 ↔ Quiet b := by
  induction n generalizing b a with
  | zero => rfl
  | succ k ih => exact (ih _).trans (quiet_fetch a)

end

theorem unfailed_fetched_of_quiet {b : Bus} (h : Quiet b) (n : Nat) (a : Word) : (fetched n b a).2.failed = false :=
  ((quiet_fetched n a).mpr h).1

/-- Every instruction: its bus agent is that of before with accesses made. -/
theorem exec_quiet {i : Instr} {s t : State} (h : exec i s = .next t) : Quiet t.bus ↔ Quiet s.bus := by
  induction i generalizing s with
  | xyFallback ii base ih => exact ih (s := s.tick 4) (exec_xyFallback_next h)
  | jrCcE | jpCcNn | callCcNn | retCc | djnzE =>
    cases h
    split <;> simp
  | _ =>
    cases h
    simp

/-! ## The guard -/

section
variable {n : Nat} {t : State}

theorem guardBus_of_no_failure (hf : t.bus.failed = false) (hn : t.bus.failsAt = none) :
    guardBus n (.next t) = .next t :=
  guardBus_next.mpr ⟨rfl, hf, Bus.madeFailing_of_none hn⟩

/-- The guard lets a state go on or ends the step in `fault(bus)`, which it never does on a quiet bus agent (R86). -/
theorem guardBus_cases (n : Nat) (t : State) :
    guardBus n (.next t) = .next t ∨ guardBus n (.next t) = .fault .bus ∧ ¬Quiet t.bus := by
  by_cases hq : Quiet t.bus
  · exact .inl (guardBus_of_no_failure hq.1 hq.2.1)
  · rw [guardBus]
    split
    · exact .inr ⟨rfl, hq⟩
    · exact .inl rfl

end

/-! ## A chain of prefixes -/

/-- An item goes on, or a bus access of it fails. -/
theorem runItem_cases {opcode : List Byte} (h : IsOpcode opcode) (n : Nat) (s : State) :
    (∃ t, runItem n opcode s = .next t) ∨ runItem n opcode s = .fault .bus ∧ ¬Quiet s.bus := by
  obtain ⟨k, -, hentry⟩ := h.entry
  obtain ⟨-, hw, -⟩ := hentry (s.fetchBytes ((decodePadded opcode).2 - opcode.length)).1
  obtain ⟨t, ht⟩ := exec_completes hw (s.fetchOperands opcode).2
  have hq : Quiet t.bus ↔ Quiet s.bus := by
    rw [exec_quiet ht, State.fetchOperands, State.fetchBytes_eq_fetched]
    exact quiet_fetched _ _
  have hrun : runItem n opcode s = guardBus n (.next t) := congrArg (guardBus n) ht
  rw [hrun, ← hq]
  exact (guardBus_cases n t).imp_left fun hg => ⟨t, hg⟩

theorem runItem_ne_prefixChain {opcode : List Byte} (h : IsOpcode opcode) (n : Nat) (s : State) :
    runItem n opcode s ≠ .fault .prefixChain := by
  obtain ⟨t, ht⟩ | ⟨ht, -⟩ := runItem_cases h n s <;> simp [ht]

/-- A DD or FD byte that takes the last of PREFIX_FUEL: stuck where no access has failed (R111 e, entry 10). -/
theorem runItems_last {n : Nat} {b : Byte} {s : State} (hb : isXYByte b = true)
    (hg : guardBus n (.next s) = .next s) : runItems n 1 b s = .fault .prefixChain := by
  obtain ⟨ii, rfl⟩ := isXYByte_iff.mp hb
  simp [runItems, IndexReg.ofByte_eq_some.mpr rfl, hg]

/-- A DD or FD byte that takes the last of PREFIX_FUEL, where an access has failed (R86). -/
theorem runItems_last_of_fault {n : Nat} {b : Byte} {s : State} (hb : isXYByte b = true)
    (hg : guardBus n (.next s) = .fault .bus) : runItems n 1 b s = .fault .bus := by
  obtain ⟨ii, rfl⟩ := isXYByte_iff.mp hb
  simp [runItems, IndexReg.ofByte_eq_some.mpr rfl, hg]

@[simp] theorem quiet_fetchM1 (s : State) : Quiet s.fetchM1.2.bus ↔ Quiet s.bus := quiet_fetch _

/-- What a chain answers (R86, R111, R115). -/
theorem runItems_cases (n fuel : Nat) (b : Byte) (s : State) :
    (∃ t, runItems n fuel b s = .next t) ∨ (runItems n fuel b s = .fault .bus ∧ ¬Quiet s.bus) ∨
      runItems n fuel b s = .fault .prefixChain := by
  induction fuel generalizing b s with
  | zero => exact .inr (.inr rfl)
  | succ left ih =>
    by_cases hlast : isXYByte b = true ∧ left = 0
    · obtain ⟨hb, rfl⟩ := hlast
      obtain hg | ⟨hg, hq⟩ := guardBus_cases n s
      · exact .inr (.inr (runItems_last hb hg))
      · exact .inr (.inl ⟨runItems_last_of_fault hb hg, hq⟩)
    · have hleft : isXYByte b = true → left ≠ 0 := fun hb h0 => hlast ⟨hb, h0⟩
      obtain h | h | ⟨hop, ii, rfl⟩ := opcode_cases b s.fetchM1.1
      · rw [runItems_one h]
        exact (runItem_cases h n s).imp_right .inl
      · rw [runItems_two h hleft, ← quiet_fetchM1]
        exact (runItem_cases h n _).imp_right .inl
      · rw [runItems_of_dropped (IndexReg.ofByte_eq_some.mpr rfl) (hleft (isXYByte_iff.mpr ⟨ii, rfl⟩)) hop,
          ← quiet_fetchM1]
        exact ih _ _

theorem isLeadByte_of_isXYByte {b : Byte} (h : isXYByte b = true) : isLeadByte b = true := by
  rw [isLeadByte, h, Bool.or_true]

/-- A chain does not get stuck at an opcode. -/
theorem runItems_ne_prefixChain {n left : Nat} {b : Byte} {s : State} (hb : isXYByte b = false) :
    runItems n (left + 1) b s ≠ .fault .prefixChain := by
  cases hlead : isLeadByte b with
  | false =>
    rw [runItems_one (.base hlead)]
    exact runItem_ne_prefixChain (.base hlead) n s
  | true =>
    have hop : IsOpcode [b, s.fetchM1.1] := .prefixed hlead (by simp [hb])
    rw [runItems_two hop (by simp [hb])]
    exact runItem_ne_prefixChain hop n _

/-- A chain is stuck exactly when all of PREFIX_FUEL bytes are prefixes, where no access fails (R111 e, D15). -/
theorem runItems_eq_prefixChain_iff {n left : Nat} {b : Byte} {s : State} (hn : s.bus.failsAt = none)
    (hf : (fetched left s.bus s.pc).2.failed = false) :
    runItems n (left + 1) b s = .fault .prefixChain ↔
      isXYByte b = true ∧ ∀ v ∈ (fetched left s.bus s.pc).1, isXYByte v = true := by
  induction left generalizing b s with
  | zero =>
    cases hb : isXYByte b with
    | false => simpa using runItems_ne_prefixChain hb
    | true => simpa [fetched] using runItems_last hb (guardBus_of_no_failure hf hn)
  | succ left ih =>
    have hbytes : (∀ v ∈ (fetched (left + 1) s.bus s.pc).1, isXYByte v = true) ↔
        isXYByte s.fetchM1.1 = true ∧ ∀ v ∈ (fetched left s.fetchM1.2.bus s.fetchM1.2.pc).1, isXYByte v = true :=
      List.forall_mem_cons
    rw [hbytes]
    cases hb : isXYByte b with
    | false => simpa using runItems_ne_prefixChain hb
    | true =>
      cases hop : dropsPrefix s.fetchM1.1 with
      | false =>
        have hopcode : IsOpcode [b, s.fetchM1.1] := .prefixed (isLeadByte_of_isXYByte hb) fun _ => hop
        have hxy : isXYByte s.fetchM1.1 = false := (Bool.or_eq_false_iff.mp hop).1
        rw [runItems_two hopcode (by simp)]
        simpa [hxy] using runItem_ne_prefixChain hopcode n _
      | true =>
        obtain ⟨ii, hii⟩ := isXYByte_iff.mp hb
        have hfix : s.fetchM1.2.bus.failsAt = none := (s.bus.extends_fetch s.pc).failsAt.trans hn
        rw [runItems_of_dropped (IndexReg.ofByte_eq_some.mpr hii) (by simp) hop]
        exact (ih (s := s.fetchM1.2.tick 4) hfix hf).trans (by simp)

/-! ## A step that is stuck -/

theorem runInstruction_eq_prefixChain_iff {s : State} {left : Nat} (hfuel : Config.prefixFuel = left + 1)
    (hn : s.bus.failsAt = none) (hf : ∀ n, (fetched n s.bus s.pc).2.failed = false) :
    s.runInstruction = .fault .prefixChain ↔ ∀ v ∈ (fetched (left + 1) s.bus s.pc).1, isXYByte v = true := by
  rw [State.runInstruction, hfuel, fetched_succ, List.forall_mem_cons]
  exact runItems_eq_prefixChain_iff (s := s.fetchM1.2) ((s.bus.extends_fetch s.pc).failsAt.trans hn) (hf (left + 1))

/-- The step is stuck exactly in an endless run, where no fetch fails (R111 e, R208 b, D15). -/
theorem step_eq_prefixChain_iff {s : State} (hq : NoAcceptance s) (hh : s.halted = false)
    (hf : ∀ n, (fetched n s.bus s.pc).2.failed = false) (hn : s.bus.failsAt = none) :
    step s = .fault .prefixChain ↔ Endless s := by
  simp only [step_of_running (hf 0) hq hh, Endless, ← isXYByte_iff_eq]
  exact runInstruction_eq_prefixChain_iff (s := { s with tStates := 0, eiDelay := false }) (left := 65535) rfl hn hf

theorem step_eq_prefixChain_iff_of_quiet {s : State} (hq : NoAcceptance s) (hh : s.halted = false)
    (hquiet : Quiet s.bus) : step s = .fault .prefixChain ↔ Endless s :=
  step_eq_prefixChain_iff hq hh (fun n => unfailed_fetched_of_quiet hquiet n s.pc) hquiet.2.1

/-! ## Memory that is all RAM and ROM -/

theorem fetched_of_plain (n : Nat) {b : Bus} (hp : PlainMemory b) (a : Word) :
    (fetched n b a).1 = (List.range n).map (fun k => b.cell (a + BitVec.ofNat 16 k)) ∧
      (fetched n b a).2.failed = b.failed := by
  induction n generalizing b a with
  | zero => exact ⟨rfl, rfl⟩
  | succ k ih =>
    have hm : (b.memAnswer a).isMemory = true := by
      obtain h | h := hp a <;> rw [h] <;> rfl
    have hfetch := b.fetch_of_isMemory a hm
    have hhead : (b.fetch a).1 = b.cell (a + BitVec.ofNat 16 0) := by rw [hfetch]; simp
    obtain ⟨hbytes, hfailed⟩ := ih (b := (b.fetch a).2) (fun x => by simpa using hp x) (a + 1)
    refine ⟨?_, hfailed.trans (by rw [hfetch])⟩
    rw [fetched_succ, hbytes, hhead, List.range_succ_eq_map, List.map_cons, List.map_map]
    simp only [Bus.cell_fetch, add_one_add_ofNat, Function.comp_def]

/-- In plain memory the run is endless exactly when every byte is a prefix: 65536 fetches meet every address. -/
theorem endless_iff_of_plain {s : State} (hp : PlainMemory s.bus) :
    Endless s ↔ ∀ a, s.peek a = 0xDD ∨ s.peek a = 0xFD := by
  rw [Endless, (fetched_of_plain 65536 hp s.pc).1]
  constructor
  · intro h a
    have := h (s.bus.cell a) (List.mem_map.mpr ⟨(a - s.pc).toNat, List.mem_range.mpr (a - s.pc).isLt,
      by rw [BitVec.ofNat_toNat, BitVec.setWidth_eq, BitVec.add_comm, BitVec.sub_add_cancel]⟩)
    exact this
  · intro h v hv
    obtain ⟨k, -, rfl⟩ := List.mem_map.mp hv
    exact h _

/-- Settles O47: the run of prefixes is endless, in the first clause because every byte of memory is one. -/
theorem endlessPrefixRunIsStuck : Obligations.EndlessPrefixRunIsStuck := by
  refine fun s hq hh => ⟨fun hp hf hn h => ?_, fun hquiet he => ?_⟩
  · have hfetch (n : Nat) : (fetched n s.bus s.pc).2.failed = false := (fetched_of_plain n hp s.pc).2.trans hf
    exact (step_eq_prefixChain_iff hq hh hfetch hn).mpr ((endless_iff_of_plain hp).mpr h)
  · exact (step_eq_prefixChain_iff_of_quiet hq hh hquiet).mpr he

/-! ## Acceptance -/

theorem acceptNmi_quiet (s : State) : Quiet s.acceptNmi.bus ↔ Quiet s.bus := by
  simp [State.acceptNmi, State.enterHandler_eq]

/-- A maskable interrupt is accepted but for a byte that mode 0 refuses (R158, D13). -/
theorem acceptInt_cases (d : Byte) (s : State) :
    (∃ t, s.acceptInt d = .next t ∧ (Quiet t.bus ↔ Quiet s.bus)) ∨
      s.acceptInt d = .refused (.mode0Byte d) ∧ s.im = .im0 ∧ isRestart d = false := by
  rw [State.acceptInt]
  cases him : s.im with
  | im0 =>
    cases hd : isRestart d with
    | true => exact .inl ⟨_, rfl, by simp [State.enterHandler_eq]⟩
    | false => exact .inr ⟨rfl, rfl, rfl⟩
  | im1 => exact .inl ⟨_, rfl, by simp [State.enterHandler_eq]⟩
  | im2 => exact .inl ⟨_, rfl, by simp [State.enterHandler_eq, State.memRead16_eq]⟩

/-! ## The step -/

/-- Everything a step can answer, and where (R86, R111, R150, R158). -/
theorem step_cases (s : State) :
    (∃ t, step s = .next t) ∨ (step s = .fault .bus ∧ ¬Quiet s.bus) ∨
    (step s = .fault .prefixChain ∧ NoAcceptance s ∧ s.halted = false) ∨
    ∃ d, step s = .refused (.mode0Byte d) ∧ s.nmiPending = false ∧ s.intPending = some d ∧ s.intAcceptable = true ∧
      s.im = .im0 ∧ isRestart d = false := by
  cases hf : s.bus.failed with
  | true => exact .inr (.inl ⟨step_of_failed hf, fun hq => by simp [hq.1] at hf⟩)
  | false =>
    obtain hn | ⟨d, hn, hd, ha⟩ | ⟨hq, hh⟩ | ⟨hq, hh⟩ := boundary_cases s
    · rw [step_of_nmiPending hf hn]
      obtain hg | ⟨hg, hq⟩ := guardBus_cases s.bus.trace.length (State.acceptNmi { s with tStates := 0 })
      · exact .inl ⟨_, hg⟩
      · exact .inr (.inl ⟨hg, fun h => hq ((acceptNmi_quiet _).mpr h)⟩)
    · rw [step_of_intPending hf hn hd ha]
      obtain ⟨t, ht, hq⟩ | ⟨ht, him, hr⟩ := acceptInt_cases d { s with tStates := 0 }
      · rw [ht]
        obtain hg | ⟨hg, hnq⟩ := guardBus_cases s.bus.trace.length t
        · exact .inl ⟨t, hg⟩
        · exact .inr (.inl ⟨hg, fun h => hnq (hq.mpr h)⟩)
      · rw [ht]
        exact .inr (.inr (.inr ⟨d, rfl, hn, hd, ha, him, hr⟩))
    · exact .inl ⟨_, step_of_halted hf hq hh⟩
    · rw [step_of_running hf hq hh]
      obtain ⟨t, ht⟩ | ⟨ht, hnq⟩ | ht := runItems_cases s.bus.trace.length Config.prefixFuel (s.bus.fetch s.pc).1
        (State.afterFetch 1 1 { s with tStates := 0, eiDelay := false })
      · exact .inl ⟨t, ht⟩
      · exact .inr (.inl ⟨ht, fun h => hnq ((quiet_fetch s.pc).mpr h)⟩)
      · exact .inr (.inr (.inl ⟨ht, hq, hh⟩))

theorem isRestart_eq_false_iff {d : Byte} : isRestart d = false ↔ d &&& 0xC7 ≠ 0xC7 := beq_eq_false_iff_ne

theorem intAcceptable_iff {s : State} : s.intAcceptable = true ↔ s.iff1 = true ∧ s.eiDelay = false := by
  simp [State.intAcceptable]

/-- Mode 0 refuses a byte that is no restart instruction (R158, D13). -/
theorem step_of_mode0Byte {s : State} {d : Byte} (hf : s.bus.failed = false) (hn : s.nmiPending = false)
    (hd : s.intPending = some d) (ha : s.intAcceptable = true) (him : s.im = .im0) (hr : isRestart d = false) :
    step s = .refused (.mode0Byte d) := by
  rw [step_of_intPending hf hn hd ha]
  simp [State.acceptInt, him, hr]

/-- Settles O55: `step_cases` has every answer of a step, and on a quiet bus agent each but the first has one cause. -/
theorem stepStopsOnlyWhereTheSpecSays : Obligations.StepStopsOnlyWhereTheSpecSays := by
  refine ⟨fun s => ?_, fun s hquiet => ?_⟩
  · obtain h | ⟨h, -⟩ | ⟨h, -⟩ | ⟨d, h, -⟩ := step_cases s
    · exact .inl h
    · exact .inr (.inl h)
    · exact .inr (.inr (.inl h))
    · exact .inr (.inr (.inr ⟨d, h⟩))
  · have hstuck : step s = .fault .prefixChain ↔ NoAcceptance s ∧ s.halted = false ∧ Endless s := by
      constructor
      · intro h
        obtain ⟨t, ht⟩ | ⟨ht, -⟩ | ⟨-, hq, hh⟩ | ⟨d, ht, -⟩ := step_cases s
        · simp [ht] at h
        · simp [ht] at h
        · exact ⟨hq, hh, (step_eq_prefixChain_iff_of_quiet hq hh hquiet).mp h⟩
        · simp [ht] at h
      · rintro ⟨hq, hh, he⟩
        exact (step_eq_prefixChain_iff_of_quiet hq hh hquiet).mpr he
    refine ⟨fun h => ?_, hstuck, fun hp => ?_, fun d => ⟨fun h => ?_, ?_⟩⟩
    · obtain ⟨t, ht⟩ | ⟨-, hnq⟩ | ⟨ht, -⟩ | ⟨d, ht, -⟩ := step_cases s
      · simp [ht] at h
      · exact hnq hquiet
      · simp [ht] at h
      · simp [ht] at h
    · rw [hstuck, endless_iff_of_plain hp]
    · obtain ⟨t, ht⟩ | ⟨ht, -⟩ | ⟨ht, -⟩ | ⟨d', ht, hn, hd, ha, him, hr⟩ := step_cases s
      · simp [ht] at h
      · simp [ht] at h
      · simp [ht] at h
      · rw [ht] at h
        cases h
        obtain ⟨hi, he⟩ := intAcceptable_iff.mp ha
        exact ⟨hn, hd, hi, he, him, isRestart_eq_false_iff.mp hr⟩
    · rintro ⟨hn, hd, hi, he, him, hr⟩
      exact step_of_mode0Byte hquiet.1 hn hd (intAcceptable_iff.mpr ⟨hi, he⟩) him (isRestart_eq_false_iff.mpr hr)

end Sys2Proof.Machine
end

section
/-!
SUPPORT. The T-state count is an output only (10_state.md R7, R210; entry 8): more T-states before an instruction are
as many more after it. A dropped prefix therefore costs its 4 T-states and its R increment (30_encoding.md R111, R121).
-/

namespace Sys2Proof.Machine

open Sys2Proof.Claims

section
variable (n : Nat) (s : State)

/-! ## What the core reads of a state -/

@[simp] theorem State.bc_tick : (s.tick n).bc = s.bc := rfl
@[simp] theorem State.de_tick : (s.tick n).de = s.de := rfl
@[simp] theorem State.hl_tick : (s.tick n).hl = s.hl := rfl
@[simp] theorem State.index_tick (ii : IndexReg) : (s.tick n).index ii = s.index ii := by cases ii <;> rfl
@[simp] theorem State.ea_tick (ii : IndexReg) (d : Byte) : (s.tick n).ea ii d = s.ea ii d := by simp [State.ea]
@[simp] theorem State.getR_tick (k : Reg8) : (s.tick n).getR k = s.getR k := by cases k <;> rfl
@[simp] theorem State.getP_tick (ii : IndexReg) (k : PReg) : (s.tick n).getP ii k = s.getP ii k := by
  cases k <;> simp [State.getP]
@[simp] theorem State.getRP_tick (p : RP) : (s.tick n).getRP p = s.getRP p := by cases p <;> rfl
@[simp] theorem State.getRP2_tick (p : RP2) : (s.tick n).getRP2 p = s.getRP2 p := by cases p <;> rfl
@[simp] theorem State.getRPI_tick (ii : IndexReg) (p : RPI) : (s.tick n).getRPI ii p = s.getRPI ii p := by
  cases p <;> simp [State.getRPI]
@[simp] theorem State.carry_tick : (s.tick n).carry = s.carry := rfl
@[simp] theorem State.cond_tick (cc : Cond) : (s.tick n).cond cc = s.cond cc := by cases cc <;> rfl

/-! ## Registers and the clock -/

theorem State.tick_tick (m : Nat) : (s.tick n).tick m = (s.tick m).tick n := by
  simp [State.tick, Nat.add_right_comm]

@[simp] theorem State.setF_tick (f : Byte) : (s.tick n).setF f = (s.setF f).tick n := rfl
@[simp] theorem State.putAF_tick (r : Byte × Byte) : (s.tick n).putAF r = (s.putAF r).tick n := rfl
@[simp] theorem State.setDE_tick (v : Word) : (s.tick n).setDE v = (s.setDE v).tick n := rfl
@[simp] theorem State.setHL_tick (v : Word) : (s.tick n).setHL v = (s.setHL v).tick n := rfl
@[simp] theorem State.jump_tick (v : Word) : (s.tick n).jump v = (s.jump v).tick n := rfl
@[simp] theorem State.jumpRel_tick (e : Byte) : (s.tick n).jumpRel e = (s.jumpRel e).tick n := rfl
@[simp] theorem State.setIndex_tick (ii : IndexReg) (v : Word) :
    (s.tick n).setIndex ii v = (s.setIndex ii v).tick n := by cases ii <;> rfl
@[simp] theorem State.setR_tick (k : Reg8) (v : Byte) : (s.tick n).setR k v = (s.setR k v).tick n := by
  cases k <;> rfl
@[simp] theorem State.setP_tick (ii : IndexReg) (k : PReg) (v : Byte) :
    (s.tick n).setP ii k v = (s.setP ii k v).tick n := by
  cases k with
  | iiH | iiL => simp [State.setP]
  | _ => rfl
@[simp] theorem State.setRP_tick (p : RP) (v : Word) : (s.tick n).setRP p v = (s.setRP p v).tick n := by
  cases p <;> rfl
@[simp] theorem State.setRP2_tick (p : RP2) (v : Word) : (s.tick n).setRP2 p v = (s.setRP2 p v).tick n := by
  cases p <;> rfl
@[simp] theorem State.addA_tick (v : Byte) : (s.tick n).addA v = (s.addA v).tick n := rfl
@[simp] theorem State.adcA_tick (v : Byte) : (s.tick n).adcA v = (s.adcA v).tick n := rfl
@[simp] theorem State.subA_tick (v : Byte) : (s.tick n).subA v = (s.subA v).tick n := rfl
@[simp] theorem State.sbcA_tick (v : Byte) : (s.tick n).sbcA v = (s.sbcA v).tick n := rfl
@[simp] theorem State.andA_tick (v : Byte) : (s.tick n).andA v = (s.andA v).tick n := rfl
@[simp] theorem State.xorA_tick (v : Byte) : (s.tick n).xorA v = (s.xorA v).tick n := rfl
@[simp] theorem State.orA_tick (v : Byte) : (s.tick n).orA v = (s.orA v).tick n := rfl
@[simp] theorem State.cpA_tick (v : Byte) : (s.tick n).cpA v = (s.cpA v).tick n := rfl
@[simp] theorem State.modifyR_tick (k : Reg8) (g : Byte → Byte → Byte × Byte) :
    (s.tick n).modifyR k g = (s.modifyR k g).tick n := by simp [State.modifyR]
@[simp] theorem State.modifyP_tick (ii : IndexReg) (k : PReg) (g : Byte → Byte → Byte × Byte) :
    (s.tick n).modifyP ii k g = (s.modifyP ii k g).tick n := by simp [State.modifyP]
@[simp] theorem State.repeatIf_tick (again : Bool) : (s.tick n).repeatIf again = (s.repeatIf again).tick n := by
  simp [State.repeatIf_eq, State.tick, Nat.add_right_comm]

/-! ## Memory, ports, the stack and the operations of the families -/

@[simp] theorem State.memRead_tick (a : Word) : (s.tick n).memRead a = ((s.memRead a).1, (s.memRead a).2.tick n) := rfl
@[simp] theorem State.memRead16_tick (a : Word) :
    (s.tick n).memRead16 a = ((s.memRead16 a).1, (s.memRead16 a).2.tick n) := rfl
@[simp] theorem State.memWrite_tick (a : Word) (v : Byte) : (s.tick n).memWrite a v = (s.memWrite a v).tick n := rfl
@[simp] theorem State.memWrite16_tick (a v : Word) : (s.tick n).memWrite16 a v = (s.memWrite16 a v).tick n := rfl
@[simp] theorem State.portRead_tick (p : Word) :
    (s.tick n).portRead p = ((s.portRead p).1, (s.portRead p).2.tick n) := rfl
@[simp] theorem State.portWrite_tick (p : Word) (v : Byte) : (s.tick n).portWrite p v = (s.portWrite p v).tick n := rfl
@[simp] theorem State.modifyAt_tick (a : Word) (g : Byte → Byte → Byte × Byte) :
    (s.tick n).modifyAt a g = ((s.modifyAt a g).1, (s.modifyAt a g).2.tick n) := by simp [State.modifyAt]
@[simp] theorem State.push16_tick (v : Word) : (s.tick n).push16 v = (s.push16 v).tick n := rfl
@[simp] theorem State.pop16_tick : (s.tick n).pop16 = (s.pop16.1, s.pop16.2.tick n) := rfl
@[simp] theorem State.call_tick (v : Word) : (s.tick n).call v = (s.call v).tick n := by simp [State.call]
@[simp] theorem State.popPC_tick : (s.tick n).popPC = s.popPC.tick n := by simp [State.popPC]
@[simp] theorem State.exchangeTop_tick (v : Word) :
    (s.tick n).exchangeTop v = ((s.exchangeTop v).1, (s.exchangeTop v).2.tick n) := by simp [State.exchangeTop]
@[simp] theorem State.returnFromHandler_tick : (s.tick n).returnFromHandler = s.returnFromHandler.tick n := rfl
@[simp] theorem State.blockMove_tick (step : Word) : (s.tick n).blockMove step = (s.blockMove step).tick n := by
  simp only [State.blockMove_eq]; rfl
@[simp] theorem State.blockCompare_tick (step : Word) :
    (s.tick n).blockCompare step = ((s.blockCompare step).1, (s.blockCompare step).2.tick n) := by
  simp only [State.blockCompare_eq]; rfl
@[simp] theorem State.blockIn_tick (step : Word) : (s.tick n).blockIn step = (s.blockIn step).tick n := by
  simp only [State.blockIn_eq]; rfl
@[simp] theorem State.blockOut_tick (step : Word) : (s.tick n).blockOut step = (s.blockOut step).tick n := by
  simp only [State.blockOut_eq]; rfl

/-! ## Fetch -/

@[simp] theorem State.fetchM1_tick : (s.tick n).fetchM1 = (s.fetchM1.1, s.fetchM1.2.tick n) := rfl
@[simp] theorem State.fetchOperands_tick (opcode : List Byte) :
    (s.tick n).fetchOperands opcode = ((s.fetchOperands opcode).1, (s.fetchOperands opcode).2.tick n) := by
  simp only [State.fetchOperands, State.fetchBytes_eq_fetched]
  rfl

end

/-! ## Instructions -/

/-- Every instruction: `tick` moves out of each operation, and only then past the instruction's own. The named cases
write registers directly or choose by a condition, and a fallback goes to its BASE instruction. -/
theorem exec_tick {i : Instr} {s t : State} (n : Nat) (h : exec i s = .next t) :
    exec i (s.tick n) = .next (t.tick n) := by
  induction i generalizing s with
  | xyFallback ii base ih =>
    rw [exec_xyFallback_next_iff] at h ⊢
    obtain ⟨hb, hx⟩ := h
    rw [State.tick_tick]
    exact ⟨hb, ih hx⟩
  | djnzE e =>
    cases h
    refine congrArg Host.Outcome.next ?_
    rw [apply_ite (State.tick n), State.tick_tick 13, State.tick_tick 8]
    rfl
  | jrCcE cc | jpCcNn cc | callCcNn cc | retCc cc =>
    cases h
    refine congrArg Host.Outcome.next ?_
    rw [State.cond_tick]
    cases s.cond cc <;> simp [State.tick_tick n]
  | ldIA | ldRA | ldAI | ldAR | ldSPHL | bitAtHL | exAFAF | exx | halt | di | ei | im0 | im1 | im2 =>
    cases h
    refine congrArg Host.Outcome.next ?_
    rw [State.tick_tick _ _ n]
    rfl
  | ldSPIi ii =>
    cases h
    refine congrArg Host.Outcome.next ?_
    rw [State.index_tick, State.tick_tick _ _ n]
    rfl
  | _ =>
    cases h
    refine congrArg Host.Outcome.next ?_
    simp [State.tick_tick n]

/-- An instruction that goes on with more T-states before it goes on without them. -/
theorem exec_of_tick {i : Instr} {n : Nat} {s t : State} (h : exec i (s.tick n) = .next t) :
    ∃ u, exec i s = .next u ∧ t = u.tick n := by
  obtain ⟨u, hu⟩ : ∃ u, exec i s = .next u := by
    cases i with
    | xyFallback ii base =>
      obtain ⟨hb, -⟩ := exec_xyFallback_next_iff.mp h
      exact exec_completes (i := .xyFallback ii base) hb s
    | _ => exact ⟨_, rfl⟩
  have ht := (exec_tick n hu).symm.trans h
  cases ht
  exact ⟨u, hu, rfl⟩

/-! ## Steps -/

/-- A step that begins later makes no earlier access. -/
theorem Bus.madeFailing_mono {n n' : Nat} (hn : n ≤ n') {b : Bus} (h : b.madeFailing n = false) :
    b.madeFailing n' = false := by
  rw [Bus.madeFailing] at h ⊢
  split
  · rfl
  · simp_all
    omega

section
variable {k n n' : Nat} {s t : State}

theorem runItem_of_tick (hn : n ≤ n') {opcode : List Byte} (h : runItem n opcode (s.tick k) = .next t) :
    ∃ u, runItem n' opcode s = .next u ∧ t = u.tick k := by
  obtain ⟨hx, hf, hm⟩ := runItem_next.mp h
  rw [State.fetchOperands_tick] at hx
  obtain ⟨u, hu, rfl⟩ := exec_of_tick hx
  exact ⟨u, runItem_next.mpr ⟨hu, hf, Bus.madeFailing_mono hn hm⟩, rfl⟩

/-- A chain that goes on, with T-states before it: so it does without them, in a step that begins later and may drop
more prefixes. -/
theorem runItems_of_tick (hn : n ≤ n') {fuel fuel' : Nat} (hfuel : fuel ≤ fuel') {b : Byte}
    (h : runItems n fuel b (s.tick k) = .next t) : ∃ u, runItems n' fuel' b s = .next u ∧ t = u.tick k := by
  induction fuel generalizing fuel' b s with
  | zero => cases h
  | succ left ih =>
    obtain ⟨left', rfl⟩ := Nat.exists_eq_add_of_le' (Nat.one_le_of_lt hfuel)
    have hle : left ≤ left' := Nat.le_of_succ_le_succ hfuel
    have hleft := ne_zero_of_runItems_next h
    have hleft' (hb : isXYByte b = true) : left' ≠ 0 :=
      fun h0 => hleft hb (Nat.le_zero.mp (h0 ▸ hle))
    obtain hop | hop | ⟨hop, ii, rfl⟩ := opcode_cases b s.fetchM1.1
    · rw [runItems_one hop] at h ⊢
      exact runItem_of_tick hn h
    · rw [runItems_two (s := s.tick k) hop hleft] at h
      rw [runItems_two hop hleft']
      exact runItem_of_tick hn h
    · have hxy : isXYByte ii.byte = true := isXYByte_iff.mpr ⟨ii, rfl⟩
      have hii := IndexReg.ofByte_eq_some.mpr (rfl : ii.byte = ii.byte)
      rw [runItems_of_dropped (s := s.tick k) hii (hleft hxy) hop, State.fetchM1_tick, State.tick_tick] at h
      rw [runItems_of_dropped hii (hleft' hxy) hop]
      exact ih hle h

end

/-- A chain of prefixes and its item are a run of accesses. -/
theorem runItems_extends {n fuel : Nat} {b : Byte} {s t : State} (h : runItems n fuel b s = .next t) : s.Extends t :=
  runItems_induct (P := s.Extends) (fun _ hu => hu.fetchM1) (fun _ _ _ hu hx => hu.trans (exec_extends hx))
    (fun opcode _ _ hu hx => (hu.fetchOperands opcode).trans (exec_extends (runItem_next.mp hx).1)) (.refl s) h

/-- A chain that goes on did not begin on a failed bus (R86). -/
theorem unfailed_of_runItems_next {n fuel : Nat} {b : Byte} {s t : State} (h : runItems n fuel b s = .next t) :
    s.bus.failed = false := by
  obtain ⟨m, hbus⟩ := (runItems_extends h).bus
  have ht := runItems_unfailed h
  cases hs : s.bus.failed with
  | false => rfl
  | true => simp [hbus.failed hs] at ht

theorem unfailed_fetchM1_of_runInstruction_next {s t : State} (h : s.runInstruction = .next t) :
    s.fetchM1.2.bus.failed = false := unfailed_of_runItems_next h

/-- An instruction that goes on after a dropped prefix: the instruction after that byte is the same, 4 T-states
shorter (R111, R121). -/
theorem runInstruction_of_dropped_next {s t : State} {ii : IndexReg} (hb : IndexReg.ofByte s.fetchM1.1 = some ii)
    (hd : dropsPrefix s.fetchM1.2.fetchM1.1 = true) (h : s.runInstruction = .next t) :
    ∃ u, s.fetchM1.2.runInstruction = .next u ∧ t = u.tick 4 := by
  have hlen : s.bus.trace.length ≤ s.fetchM1.2.bus.trace.length :=
    Nat.le.intro (s.bus.extends_fetch s.pc).length.symm
  obtain ⟨left, hfuel⟩ : ∃ left, Config.prefixFuel = left + 1 := ⟨65535, rfl⟩
  rw [State.runInstruction, hfuel] at h
  have hleft := ne_zero_of_runItems_next h (isXYByte_iff.mpr ⟨ii, IndexReg.ofByte_eq_some.mp hb⟩)
  rw [runItems_of_dropped hb hleft hd] at h
  exact runItems_of_tick hlen (Nat.le_of_lt (Nat.lt_of_succ_le hfuel.ge)) h

/-- A step that begins with a dropped prefix is the step after that byte, 4 T-states longer (R111, R121). -/
theorem step_of_dropped_next {s t : State} {ii : IndexReg} (hq : NoAcceptance s) (hh : s.halted = false)
    (hb : IndexReg.ofByte s.fetchM1.1 = some ii) (hd : dropsPrefix s.fetchM1.2.fetchM1.1 = true)
    (h : step s = .next t) : ∃ u, step s.fetchM1.2 = .next u ∧ t = u.tick 4 := by
  have hf := (step_next h).1
  rw [step_of_running hf hq hh] at h
  have hf1 := unfailed_fetchM1_of_runInstruction_next h
  obtain ⟨u, hu, ht⟩ := runInstruction_of_dropped_next (s := { s with tStates := 0, eiDelay := false }) hb hd h
  exact ⟨u, (step_of_running (s := s.fetchM1.2) hf1 hq hh).trans hu, ht⟩

/-- Settles O46: a step that goes on is the step after the dropped byte, 4 T-states longer; on a quiet bus agent it goes
on, as the run of prefixes ends. -/
theorem droppedPrefixCostsFourAndOneRefresh : Obligations.DroppedPrefixCostsFourAndOneRefresh := by
  intro s hq hh hf m n s1 hm hn
  obtain ⟨ii, hii⟩ := isXYByte_iff.mp (isXYByte_iff_eq.mpr hm)
  have hdrop : dropsPrefix n.1 = true := dropsPrefix_of_mem (by simpa using hn)
  have hstep (t : State) (h : step s = .next t) := step_of_dropped_next hq hh (IndexReg.ofByte_eq_some.mpr hii) hdrop h
  refine ⟨fun hquiet he => ?_, hstep⟩
  obtain ⟨t, ht⟩ | ⟨-, hnq⟩ | ⟨ht, -⟩ | ⟨d, -, hnmi, hint, hacc, -⟩ := step_cases s
  · obtain ⟨u, hu, rfl⟩ := hstep t ht
    exact ⟨u, hu, ht⟩
  · exact absurd hquiet hnq
  · exact absurd ((step_eq_prefixChain_iff_of_quiet hq hh hquiet).mp ht) he
  · obtain ⟨-, hno⟩ := hq
    obtain ⟨hiff, hei⟩ := intAcceptable_iff.mp hacc
    simp [hint, hiff, hei] at hno

end Sys2Proof.Machine
end

section
/-!
SUPPORT. The byte loads and stores (40_load8.md R300 to R319): the state after some T-states, after one byte is read
into a register and after one byte is written, and the flags of `LD A,I` and `LD A,R`.
-/

namespace Sys2Proof.Machine

open Sys2Proof.Claims

/-! ## Bits of a flag byte -/

@[simp] theorem bitOf_or (v w : Byte) (n : Nat) : bitOf (v ||| w) n = (bitOf v n || bitOf w n) :=
  BitVec.getLsbD_or

@[simp] theorem bitOf_and (v w : Byte) (n : Nat) : bitOf (v &&& w) n = (bitOf v n && bitOf w n) :=
  BitVec.getLsbD_and

/-- The bits of a mask written as a number. -/
@[simp] theorem bitOf_ofNat (m n : Nat) : bitOf (BitVec.ofNat 8 m) n = decide (n < 8 ∧ m / 2 ^ n % 2 = 1) := by
  rw [bitOf, BitVec.getLsbD_ofNat, Nat.testBit_eq_decide_div_mod_eq, Bool.decide_and]

@[simp] theorem bitOf_flagIf (c : Bool) (m : Byte) (n : Nat) : bitOf (flagIf c m) n = (c && bitOf m n) := by
  cases c with
  | true => rfl
  | false => simp [flagIf]

/-- Bits 7, 5 and 3 of `SZYX(v)` are those of `v`, bit 6 says that `v` is 0, the others are 0 (R340). -/
theorem bitOf_szyx (v : Byte) (n : Nat) : bitOf (szyx v) n = (bitOf v n && bitOf 0xA8 n || v == 0 && bitOf 0x40 n) := by
  simp [szyx]

/-- A flag byte with S, Z and bits 5 and 3 of `SZYX(v)` has those of the result `v` (R340). -/
theorem resultFlags_of_szyx {f v : Byte} (h7 : bitOf f 7 = bitOf (szyx v) 7) (h6 : bitOf f 6 = bitOf (szyx v) 6)
    (h5 : bitOf f 5 = bitOf (szyx v) 5) (h3 : bitOf f 3 = bitOf (szyx v) 3) : ResultFlags f v := by
  rw [ResultFlags, h7, h6, h5, h3]
  simp [bitOf_szyx]

theorem bitOf_loadIRFlags (v : Byte) (iff2 : Bool) (f : Byte) (n : Nat) :
    bitOf (loadIRFlags v iff2 f) n = (bitOf f n && bitOf 0x01 n || bitOf (szyx v) n || iff2 && bitOf 0x04 n) := by
  simp [loadIRFlags]

/-- The flags of `LD A,I` and `LD A,R`: S, Z, bits 5 and 3 from the byte loaded, P/V = IFF2, H and N 0, C kept (R313,
R314). -/
theorem loadIRFlags_bits (v : Byte) (iff2 : Bool) (f : Byte) :
    let g := loadIRFlags v iff2 f
    ResultFlags g v ∧ bitOf g 4 = false ∧ bitOf g 2 = iff2 ∧ bitOf g 1 = false ∧ bitOf g 0 = bitOf f 0 := by
  refine ⟨resultFlags_of_szyx ?_ ?_ ?_ ?_, ?_, ?_, ?_, ?_⟩ <;> simp [bitOf_loadIRFlags, bitOf_szyx]

/-! ## T-states and accesses of one byte -/

/-- `tick` with the bus agent named. -/
theorem State.tick_eq_after {s : State} {b : Bus} (n : Nat) (h : s.bus = b) : s.tick n = after s n b := by
  rw [← h]
  rfl

theorem State.tick_setR (s : State) (k : Reg8) (v : Byte) (n : Nat) :
    (s.setR k v).tick n = after (s.setR k v) n s.bus :=
  State.tick_eq_after n (by simp)

theorem State.tick_setP (s : State) (ii : IndexReg) (k : PReg) (v : Byte) (n : Nat) :
    (s.setP ii k v).tick n = after (s.setP ii k v) n s.bus :=
  State.tick_eq_after n (by simp)

/-- One byte read into a register. -/
theorem State.tick_setR_memRead (s : State) (a : Word) (k : Reg8) (n : Nat) :
    ((s.memRead a).2.setR k (s.memRead a).1).tick n = after (s.setR k (byteFrom s a)) n (busAfterRead s a) := by
  cases k <;> rfl

/-- The model's `ii + sext_16(d)` is the statements' (R108). -/
theorem State.ea_eq_indexed (s : State) (ii : IndexReg) (d : Byte) : s.ea ii d = indexed s ii d := by
  cases ii <;> rfl

/-- An instruction stores one byte where its next state is one write after `u`, whose memory is that of before. -/
theorem storesByte_of_exec_eq {i : Instr} {s u : State} {a : Word} {v : Byte}
    (h : exec i s = .next { u with bus := u.bus.write a v }) (hcell : ∀ x, u.bus.cell x = s.bus.cell x)
    (hmap : u.bus.memAnswer a = s.bus.memAnswer a) : StoresByte i s a v u := by
  refine ⟨h, fun ha => u.bus.cell_write_same a v (hmap.trans ha), fun x hx => ?_⟩
  have hwrite : (u.bus.write a v).cell x = u.bus.cell x :=
    hx.elim (u.bus.cell_write_other a x v) fun ha => u.bus.cell_write_of_not_ram a x v (hmap ▸ ha)
  exact hwrite.trans (hcell x)

/-- An instruction that is one write and some T-states stores one byte. -/
theorem storesByte_of_exec_eq_memWrite {i : Instr} {s : State} {a : Word} {v : Byte} {n : Nat}
    (h : exec i s = .next ((s.memWrite a v).tick n)) : StoresByte i s a v (after s n s.bus) :=
  storesByte_of_exec_eq h (fun _ => rfl) rfl

/-! ## The statements -/

/-- Settles O15: a register's write leaves the bus agent, and `loadIRFlags` is the flag byte of `LD A,I` and
`LD A,R`. -/
theorem loadRegisterForms : Obligations.LoadRegisterForms := by
  intro s y z n ii p q
  exact ⟨congrArg Host.Outcome.next (s.tick_setR y (s.getR z) 4), congrArg Host.Outcome.next (s.tick_setR y n 7),
    congrArg Host.Outcome.next (s.tick_setP ii p (s.getP ii q) 8),
    congrArg Host.Outcome.next (s.tick_setP ii p n 11), rfl, rfl,
    ⟨loadIRFlags s.i s.iff2 s.f, rfl, loadIRFlags_bits s.i s.iff2 s.f⟩,
    ⟨loadIRFlags s.r s.iff2 s.f, rfl, loadIRFlags_bits s.r s.iff2 s.f⟩⟩

/-- Settles O16: each load is one read into a register. -/
theorem loadByteFromMemoryForms : Obligations.LoadByteFromMemoryForms := by
  intro s y nn ii d
  rw [← s.ea_eq_indexed]
  exact ⟨congrArg Host.Outcome.next (s.tick_setR_memRead s.hl y 7),
    congrArg Host.Outcome.next (s.tick_setR_memRead s.bc .a 7),
    congrArg Host.Outcome.next (s.tick_setR_memRead s.de .a 7),
    congrArg Host.Outcome.next (s.tick_setR_memRead nn .a 13),
    congrArg Host.Outcome.next (s.tick_setR_memRead (s.ea ii d) y 19)⟩

/-- Settles O17: each store is one write and some T-states. -/
theorem storeByteForms : Obligations.StoreByteForms := by
  intro s z nn ii d n
  rw [← s.ea_eq_indexed]
  refine ⟨?_, ?_, ?_, ?_, ?_, ?_, ?_⟩ <;> exact storesByte_of_exec_eq_memWrite rfl

end Sys2Proof.Machine
end

section
/-!
SUPPORT. The 16-bit loads, the stack and the exchanges (41_load16_stack_exchange.md R320 to R338): a word read into a
pair, a word written in either order, and what a store after the two reads of an exchange leaves.
-/

namespace Sys2Proof.Machine

open Sys2Proof.Claims

/-! ## T-states after a pair is written -/

theorem State.tick_setRP (s : State) (p : RP) (v : Word) (n : Nat) :
    (s.setRP p v).tick n = after (s.setRP p v) n s.bus :=
  State.tick_eq_after n (by simp)

theorem State.tick_setIndex (s : State) (ii : IndexReg) (v : Word) (n : Nat) :
    (s.setIndex ii v).tick n = after (s.setIndex ii v) n s.bus :=
  State.tick_eq_after n (by simp)

/-! ## A word read into a pair -/

theorem State.tick_setRP_memRead16 (s : State) (a : Word) (p : RP) (n : Nat) :
    ((s.memRead16 a).2.setRP p (s.memRead16 a).1).tick n = after (s.setRP p (wordFrom s a)) n (busAfterReads s a) := by
  cases p <;> rfl

theorem State.tick_setIndex_memRead16 (s : State) (a : Word) (ii : IndexReg) (n : Nat) :
    ((s.memRead16 a).2.setIndex ii (s.memRead16 a).1).tick n =
      after (s.setIndex ii (wordFrom s a)) n (busAfterReads s a) := by
  cases ii <;> rfl

theorem State.tick_setRP2_pop16 (s : State) (q : RP2) (n : Nat) :
    (s.pop16.2.setRP2 q s.pop16.1).tick n =
      after (State.setRP2 { s with sp := s.sp + 2 } q (wordFrom s s.sp)) n (busAfterReads s s.sp) := by
  rw [State.pop16_eq_wordFrom]
  cases q <;> rfl

theorem State.tick_setIndex_pop16 (s : State) (ii : IndexReg) (n : Nat) :
    (s.pop16.2.setIndex ii s.pop16.1).tick n =
      after (State.setIndex { s with sp := s.sp + 2 } ii (wordFrom s s.sp)) n (busAfterReads s s.sp) := by
  rw [State.pop16_eq_wordFrom]
  cases ii <;> rfl

/-! ## A word written -/

/-- A byte of memory after a write: the one written, at its address where that is RAM. -/
theorem Bus.cell_write (b : Bus) (a x : Word) (v : Byte) :
    (b.write a v).cell x = if x = a ∧ b.memAnswer a = .ram then v else b.cell x := by
  split
  case isTrue h =>
    obtain ⟨rfl, hram⟩ := h
    exact b.cell_write_same x v hram
  case isFalse h =>
    by_cases hx : x = a
    · exact b.cell_write_of_not_ram a x v fun hram => h ⟨hx, hram⟩
    · exact b.cell_write_other a x v hx

/-- The order of two writes to different addresses does not matter to what memory holds. -/
theorem Bus.cell_write_comm (b : Bus) {a c : Word} (v w : Byte) (h : a ≠ c) (x : Word) :
    ((b.write a v).write c w).cell x = ((b.write c w).write a v).cell x := by
  simp only [Bus.cell_write, Bus.memAnswer_write]
  by_cases hx : x = a
  · have hc : x ≠ c := hx ▸ h
    simp [hc]
  · simp [hx]

/-- `WordStored` looks at memory and at its map only. -/
theorem wordStored_congr {s s' t t' : State} {a v : Word} (hmap : ∀ x, s'.bus.memAnswer x = s.bus.memAnswer x)
    (hs : ∀ x, s'.peek x = s.peek x) (ht : ∀ x, t'.peek x = t.peek x) : WordStored s' t' a v ↔ WordStored s t a v := by
  simp only [WordStored, hmap, hs, ht]

/-- Low byte first stores the word as well as high byte first does. -/
theorem State.wordStored_memWrite16 (s : State) (a v : Word) : WordStored s (s.memWrite16 a v) a v := by
  have hne : a ≠ a + 1 := by bv_omega
  have hhighFirst : WordStored s { s with bus := (s.bus.write (a + 1) (hiByte v)).write a (loByte v) } a v :=
    wordStored_of_bus_eq rfl
  refine (wordStored_congr (fun _ => rfl) (fun _ => rfl) fun x => ?_).mpr hhighFirst
  exact s.bus.cell_write_comm _ _ hne x

/-- An instruction that writes a word low byte first and adds T-states. -/
theorem storesWord_of_exec_eq_memWrite16 {i : Instr} {s : State} {a v : Word} {n : Nat}
    (h : exec i s = .next ((s.memWrite16 a v).tick n)) : StoresWord i s a v (after s n s.bus) :=
  ⟨h, s.wordStored_memWrite16 a v⟩

/-- An instruction that pushes a word and adds T-states. -/
theorem storesWordHighFirst_of_exec_eq_push16 {i : Instr} {s : State} {v : Word} {n : Nat}
    (h : exec i s = .next ((s.push16 v).tick n)) :
    StoresWordHighFirst i s (s.sp - 2) v (after { s with sp := s.sp - 2 } n s.bus) := by
  have hsp : s.sp - 2 + 1 = s.sp - 1 := by bv_omega
  refine ⟨?_, wordStored_of_bus_eq rfl⟩
  rw [h, State.push16_eq_pushed, pushed, hsp]
  rfl

/-! ## Exchanges -/

/-- `EX DE,HL` goes through the words DE and HL; their halves are the registers swapped. -/
theorem exec_exDEHL (s : State) :
    exec .exDEHL s = .next (after { s with d := s.h, e := s.l, h := s.d, l := s.e } 4 s.bus) := by
  change Host.Outcome.next (((s.setDE s.hl).setHL s.de).tick 4) = _
  simp [State.setDE, State.setHL, State.de, State.hl, State.tick, after]

/-- The exchange of a word with the top of the stack: two reads, then the word written high byte first. -/
theorem State.exchangeTop_eq_wordFrom (s : State) (v : Word) :
    s.exchangeTop v = (wordFrom s s.sp,
      { s with bus := ((busAfterReads s s.sp).write (s.sp + 1) (hiByte v)).write s.sp (loByte v) }) :=
  s.exchangeTop_eq v

/-- An instruction that reads a word and then writes one high byte first: the reads leave memory and its map. -/
theorem storesWordHighFirst_of_exec_eq_afterReads {i : Instr} {s u : State} {a v : Word} {n : Nat}
    (h : exec i s = .next (after u n (((busAfterReads s a).write (a + 1) (hiByte v)).write a (loByte v)))) :
    StoresWordHighFirst i s a v (after u n (busAfterReads s a)) := by
  refine ⟨h, (wordStored_congr (s' := after u n (busAfterReads s a)) (fun x => ?_) (fun x => ?_) fun _ => rfl).mp
    (wordStored_of_bus_eq rfl)⟩
  · simp [after, busAfterReads]
  · simp [State.peek, after, busAfterReads]

/-- `EX (SP),HL` (R331). -/
theorem storesWordHighFirst_exAtSPHL (s : State) :
    StoresWordHighFirst .exAtSPHL s s.sp s.hl
      (after (s.setHL (wordFrom s s.sp)) 19 (busAfterReads s s.sp)) := by
  apply storesWordHighFirst_of_exec_eq_afterReads
  change Host.Outcome.next (((s.exchangeTop s.hl).2.setHL (s.exchangeTop s.hl).1).tick 19) = _
  rw [State.exchangeTop_eq_wordFrom]
  rfl

/-- `EX (SP),ii` (R338). -/
theorem storesWordHighFirst_exAtSPIi (s : State) (ii : IndexReg) :
    StoresWordHighFirst (.exAtSPIi ii) s s.sp (s.index ii)
      (after (s.setIndex ii (wordFrom s s.sp)) 23 (busAfterReads s s.sp)) := by
  apply storesWordHighFirst_of_exec_eq_afterReads
  change Host.Outcome.next (((s.exchangeTop (s.index ii)).2.setIndex ii (s.exchangeTop (s.index ii)).1).tick 23) = _
  rw [State.exchangeTop_eq_wordFrom]
  cases ii <;> rfl

/-! ## The statements -/

/-- Settles O18: a pair's write leaves the bus agent. -/
theorem loadWordRegisterForms : Obligations.LoadWordRegisterForms := by
  intro s p ii nn
  exact ⟨congrArg Host.Outcome.next (s.tick_setRP p nn 10), congrArg Host.Outcome.next (s.tick_setIndex ii nn 14),
    rfl, rfl, rfl⟩

/-- Settles O19: each load is one word read or popped into a pair. -/
theorem loadWordFromMemoryForms : Obligations.LoadWordFromMemoryForms := by
  intro s p q ii nn
  exact ⟨congrArg Host.Outcome.next (s.tick_setRP_memRead16 nn .hl 16),
    congrArg Host.Outcome.next (s.tick_setRP_memRead16 nn p 20),
    congrArg Host.Outcome.next (s.tick_setIndex_memRead16 nn ii 20),
    congrArg Host.Outcome.next (s.tick_setRP2_pop16 q 10),
    congrArg Host.Outcome.next (s.tick_setIndex_pop16 ii 14)⟩

/-- Settles O20: each store is one word written low byte first, or pushed, and some T-states. -/
theorem storeWordForms : Obligations.StoreWordForms := by
  intro s p q ii nn
  exact ⟨storesWord_of_exec_eq_memWrite16 rfl, storesWord_of_exec_eq_memWrite16 rfl,
    storesWord_of_exec_eq_memWrite16 rfl, storesWordHighFirst_of_exec_eq_push16 rfl,
    storesWordHighFirst_of_exec_eq_push16 rfl⟩

/-- Settles O21: the register exchanges by evaluation, the exchanges with the stack as two reads and then a word written
high byte first. -/
theorem exchangeForms : Obligations.ExchangeForms := by
  intro s
  exact ⟨exec_exDEHL s, rfl, rfl, storesWordHighFirst_exAtSPHL s, storesWordHighFirst_exAtSPIi s .ix,
    storesWordHighFirst_exAtSPIi s .iy⟩

end Sys2Proof.Machine
end

section
/-!
SUPPORT. The 8-bit ALU functions (42_alu8.md R340 to R346): each flag byte bit by bit, and signed overflow read off
three sign bits, for every width.
-/

namespace Sys2Proof.Machine

open Sys2Proof.Claims

/-! ## Signed overflow -/

section
variable {w : Nat}

/-- A number of at most one bit more than the width is read back as itself or one wrap away. -/
theorem toInt_ofInt_cases {s : Int} (hlo : -(2 * 2 ^ w) ≤ s) (hhi : s < 2 * 2 ^ w) :
    (BitVec.ofInt (w + 1) s).toInt = s ∨ (BitVec.ofInt (w + 1) s).toInt = s + 2 * 2 ^ w ∨
      (BitVec.ofInt (w + 1) s).toInt = s - 2 * 2 ^ w := by
  have hfits (t : Int) (hl : -2 ^ w ≤ t) (hh : t < 2 ^ w) : t.bmod (2 ^ (w + 1)) = t := by
    rw [← BitVec.toInt_ofInt]
    exact BitVec.toInt_ofInt_eq_self w.succ_pos hl hh
  have hcast : ((2 ^ (w + 1) : Nat) : Int) = 2 * 2 ^ w := by
    push_cast
    exact pow_succ' 2 w
  have hup := Int.add_bmod_right s (2 ^ (w + 1))
  have hdown := Int.sub_bmod_right s (2 ^ (w + 1))
  rw [hcast] at hup hdown
  rw [BitVec.toInt_ofInt]
  rcases lt_or_ge s (-2 ^ w) with hneg | hneg
  · exact .inr (.inl (hup ▸ hfits _ (by omega) (by omega)))
  rcases lt_or_ge s (2 ^ w) with hpos | hpos
  · exact .inl (hfits s hneg hpos)
  · exact .inr (.inr (hdown ▸ hfits _ (by omega) (by omega)))

theorem toInt_bounds (v : BitVec (w + 1)) : -2 ^ w ≤ v.toInt ∧ v.toInt < 2 ^ w :=
  ⟨v.le_toInt, v.toInt_lt⟩

variable {a b r : BitVec (w + 1)} {c : Bool}

/-- Operands of one sign and a result of the other: the signed sum is out of range. -/
theorem msb_overflow_of_add (hr : r = BitVec.ofInt (w + 1) (a.toInt + b.toInt + c.toNat)) :
    (a.msb == b.msb && r.msb != a.msb) = true ↔
      a.toInt + b.toInt + c.toNat < -2 ^ w ∨ 2 ^ w ≤ a.toInt + b.toInt + c.toNat := by
  have ha := toInt_bounds a
  have hb := toInt_bounds b
  have hc := c.toNat_le
  have hrange := toInt_bounds r
  have hwrap := toInt_ofInt_cases (w := w) (s := a.toInt + b.toInt + c.toNat) (by omega) (by omega)
  rw [← hr] at hwrap
  simp only [BitVec.msb_eq_toInt, Bool.and_eq_true, beq_iff_eq, bne_iff_ne, ne_eq, decide_eq_decide]
  omega

/-- Operands of two signs and a result of the other sign than the first: the signed difference is out of range. -/
theorem msb_overflow_of_sub (hr : r = BitVec.ofInt (w + 1) (a.toInt - b.toInt - c.toNat)) :
    (a.msb != b.msb && r.msb != a.msb) = true ↔
      a.toInt - b.toInt - c.toNat < -2 ^ w ∨ 2 ^ w ≤ a.toInt - b.toInt - c.toNat := by
  have ha := toInt_bounds a
  have hb := toInt_bounds b
  have hc := c.toNat_le
  have hrange := toInt_bounds r
  have hwrap := toInt_ofInt_cases (w := w) (s := a.toInt - b.toInt - c.toNat) (by omega) (by omega)
  rw [← hr] at hwrap
  simp only [BitVec.msb_eq_toInt, Bool.and_eq_true, bne_iff_ne, ne_eq, decide_eq_decide]
  omega

end

/-- The sum of the unsigned operands, narrowed, is that of the signed ones. -/
theorem ofNat_add_eq_ofInt {w : Nat} (a b : BitVec w) (c : Bool) :
    BitVec.ofNat w (a.toNat + b.toNat + c.toNat) = BitVec.ofInt w (a.toInt + b.toInt + c.toNat) := by
  simp [BitVec.ofInt_add, BitVec.ofNat_add]

theorem ofInt_sub_eq_ofInt {w : Nat} (a b : BitVec w) (c : Bool) :
    BitVec.ofInt w (a.toNat - b.toNat - c.toNat) = BitVec.ofInt w (a.toInt - b.toInt - c.toNat) := by
  simp [sub_eq_add_neg, BitVec.ofInt_add, BitVec.ofInt_neg]

/-! ## Parity -/

/-- The statements' count of 1 bits is the model's. -/
theorem ones_eq_onesCount (v : Byte) : ones v = onesCount v := by
  have hrange : List.range 8 = [0, 1, 2, 3, 4, 5, 6, 7] := rfl
  simp only [ones, onesCount, hrange, ← List.countP_eq_length_filter, List.countP_cons, List.countP_nil, Bool.toNat,
    Bool.cond_eq_ite]
  omega

/-- P/V of `PAR(v)` says that the number of 1 bits is even, the other bits are 0 (R340). -/
theorem bitOf_par (v : Byte) (n : Nat) : bitOf (par v) n = (ones v % 2 == 0 && bitOf 0x04 n) := by
  rw [par, bitOf_flagIf, ones_eq_onesCount]

/-- A flag byte with P/V of `PAR(v)` has even parity of `v` there (R340). -/
theorem parityFlag_of_par {f v : Byte} (h : bitOf f 2 = bitOf (par v) 2) : ParityFlag f v := by
  rw [ParityFlag, h]
  simp [bitOf_par]

/-! ## Sum and difference -/

/-- The flags of R341. -/
theorem bitOf_add8 (a b : Byte) (c : Bool) (n : Nat) :
    bitOf (add8 a b c).2 n = (bitOf (szyx (add8 a b c).1) n
      || decide (a.toNat % 16 + b.toNat % 16 + c.toNat > 15) && bitOf 0x10 n
      || (bitOf a 7 == bitOf b 7 && bitOf (add8 a b c).1 7 != bitOf a 7) && bitOf 0x04 n
      || decide (a.toNat + b.toNat + c.toNat > 255) && bitOf 0x01 n) := by
  simp only [add8, bitOf_or, bitOf_flagIf]

/-- The flags of R342, the borrows as comparisons. -/
theorem bitOf_sub8 (a b : Byte) (c : Bool) (n : Nat) :
    bitOf (sub8 a b c).2 n = (bitOf (szyx (sub8 a b c).1) n || bitOf 0x02 n
      || decide (a.toNat % 16 < b.toNat % 16 + c.toNat) && bitOf 0x10 n
      || (bitOf a 7 != bitOf b 7 && bitOf (sub8 a b c).1 7 != bitOf a 7) && bitOf 0x04 n
      || decide (a.toNat < b.toNat + c.toNat) && bitOf 0x01 n) := by
  have hhalf : (a.toNat % 16 : Nat) - (b.toNat % 16 : Nat) - (c.toNat : Int) < 0 ↔
      a.toNat % 16 < b.toNat % 16 + c.toNat := by omega
  have hborrow : (a.toNat : Int) - b.toNat - c.toNat < 0 ↔ a.toNat < b.toNat + c.toNat := by omega
  simp only [sub8, bitOf_or, bitOf_flagIf, hhalf, hborrow]

theorem toNat_sub8 (a b : Byte) (c : Bool) :
    ((sub8 a b c).1.toNat : Int) = ((a.toNat : Int) - b.toNat - c.toNat) % 256 := by
  rw [sub8, BitVec.toNat_ofInt]
  omega

/-- Bit 7 of a byte is its sign bit, so the signs of R341 say signed overflow. -/
theorem add8_overflow (a b : Byte) (c : Bool) :
    (bitOf a 7 == bitOf b 7 && bitOf (add8 a b c).1 7 != bitOf a 7) = true ↔
      a.toInt + b.toInt + c.toNat < -128 ∨ 127 < a.toInt + b.toInt + c.toNat :=
  (msb_overflow_of_add (w := 7) (ofNat_add_eq_ofInt a b c)).trans (by omega)

/-- The same for the signs of R342. -/
theorem sub8_overflow (a b : Byte) (c : Bool) :
    (bitOf a 7 != bitOf b 7 && bitOf (sub8 a b c).1 7 != bitOf a 7) = true ↔
      a.toInt - b.toInt - c.toNat < -128 ∨ 127 < a.toInt - b.toInt - c.toNat :=
  (msb_overflow_of_sub (w := 7) (ofInt_sub_eq_ofInt a b c)).trans (by omega)

/-! ## Compare, logic, increment and decrement -/

/-- The flags of R343. -/
theorem bitOf_cp8 (a b : Byte) (n : Nat) :
    bitOf (cp8 a b) n = (bitOf (sub8 a b false).2 n && bitOf 0xD7 n || bitOf b n && bitOf 0x28 n) := by
  simp only [cp8, bitOf_or, bitOf_and]

/-- The flags of R344 for a result `v`, H being `h`. -/
theorem logicFlags_bits {f v : Byte} {h : Bool}
    (hf : ∀ n, bitOf f n = (bitOf (szyx v) n || h && bitOf 0x10 n || bitOf (par v) n)) :
    ResultFlags f v ∧ ParityFlag f v ∧ bitOf f 4 = h ∧ bitOf f 1 = false ∧ bitOf f 0 = false := by
  refine ⟨resultFlags_of_szyx ?_ ?_ ?_ ?_, parityFlag_of_par ?_, ?_, ?_, ?_⟩ <;> simp [hf, bitOf_szyx, bitOf_par]

/-- The flags of `INC8` (R345). -/
theorem bitOf_inc8 (v f : Byte) (n : Nat) :
    bitOf (inc8 v f).2 n = (bitOf f n && bitOf 0x01 n || bitOf (szyx (v + 1)) n
      || v.toNat % 16 == 15 && bitOf 0x10 n || v == 0x7F && bitOf 0x04 n) := by
  simp only [inc8, bitOf_or, bitOf_and, bitOf_flagIf]

/-- The flags of `DEC8` (R345). -/
theorem bitOf_dec8 (v f : Byte) (n : Nat) :
    bitOf (dec8 v f).2 n = (bitOf f n && bitOf 0x01 n || bitOf 0x02 n || bitOf (szyx (v - 1)) n
      || v.toNat % 16 == 0 && bitOf 0x10 n || v == 0x80 && bitOf 0x04 n) := by
  simp only [dec8, bitOf_or, bitOf_and, bitOf_flagIf]

/-! ## Decimal adjustment -/

/-- The flags of R346. -/
theorem bitOf_daa8 (a f : Byte) (n : Nat) :
    bitOf (daa8 a f).2 n = (bitOf (szyx (daa8 a f).1) n || bitOf (par (daa8 a f).1) n || bitOf f 1 && bitOf 0x02 n
      || (bif bitOf f 1 then bitOf f 4 && decide (a.toNat % 16 < 6) else decide (a.toNat % 16 > 9)) && bitOf 0x10 n
      || (bitOf f 0 || decide (a.toNat > 0x99)) && bitOf 0x01 n) := by
  simp only [daa8, bitOf_or, bitOf_flagIf, Bool.cond_eq_ite]

/-! ## The statements -/

/-- Settles O1: `SZYX` by its bits, and `PAR` counts the same bits. -/
theorem szyxAndParityBits : Obligations.SzyxAndParityBits := by
  intro v
  refine ⟨resultFlags_of_szyx rfl rfl rfl rfl, ?_, ?_, ?_, ?_, ?_⟩
  case refine_5 => simp [par, flagIf, ones_eq_onesCount]
  all_goals simp [bitOf_szyx]

/-- Settles O2: the flags by their bits, and the three signs of P/V say signed overflow. -/
theorem add8ResultAndFlags : Obligations.Add8ResultAndFlags := by
  intro a b c
  have hpv : bitOf (add8 a b c).2 2 = (bitOf a 7 == bitOf b 7 && bitOf (add8 a b c).1 7 != bitOf a 7) := by
    simp [bitOf_add8, bitOf_szyx]
  refine ⟨rfl, resultFlags_of_szyx ?_ ?_ ?_ ?_, ?_, hpv, hpv ▸ add8_overflow a b c, ?_, ?_⟩ <;>
    simp [bitOf_add8, bitOf_szyx]

/-- Settles O3: the flags by their bits, and the three signs of P/V say signed overflow. -/
theorem sub8ResultAndFlags : Obligations.Sub8ResultAndFlags := by
  intro a b c
  have hpv : bitOf (sub8 a b c).2 2 = (bitOf a 7 != bitOf b 7 && bitOf (sub8 a b c).1 7 != bitOf a 7) := by
    simp [bitOf_sub8, bitOf_szyx]
  refine ⟨toNat_sub8 a b c, resultFlags_of_szyx ?_ ?_ ?_ ?_, ?_, hpv, hpv ▸ sub8_overflow a b c, ?_, ?_⟩ <;>
    simp [bitOf_sub8, bitOf_szyx]

/-- Settles O4: CP8 by its masks, and one flag byte for the three logic functions. -/
theorem compareAndLogicFlags : Obligations.CompareAndLogicFlags := by
  intro a b
  refine ⟨?_, ⟨rfl, logicFlags_bits fun n => ?_⟩, ⟨rfl, logicFlags_bits fun n => ?_⟩,
    ⟨rfl, logicFlags_bits fun n => ?_⟩⟩
  · simp [bitOf_cp8]
  · simp [and8]
  · simp [or8]
  · simp [xor8]

/-- Settles O5: overflow of an increment is at 0x7F, of a decrement at 0x80. -/
theorem incDec8ResultAndFlags : Obligations.IncDec8ResultAndFlags := by
  intro v f
  have hinc : v + 1#8 = 128#8 ↔ v = 127#8 := by bv_omega
  have hdec : v - 1#8 = 127#8 ↔ v = 128#8 := by bv_omega
  constructor
  · refine ⟨rfl, resultFlags_of_szyx ?_ ?_ ?_ ?_, ?_, ?_, ?_, ?_⟩ <;> simp [bitOf_inc8, bitOf_szyx, hinc]
  · refine ⟨rfl, resultFlags_of_szyx ?_ ?_ ?_ ?_, ?_, ?_, ?_, ?_⟩ <;> simp [bitOf_dec8, bitOf_szyx, hdec]

/-- Settles O6: the correction by its two conditions, the flags by their bits. -/
theorem daa8ResultAndFlags : Obligations.Daa8ResultAndFlags := by
  intro a f
  refine ⟨?_, resultFlags_of_szyx ?_ ?_ ?_ ?_, parityFlag_of_par ?_, ?_, ?_, fun hn => ?_, fun hn => ?_⟩
  case refine_1 => simp [daa8, flagIf]
  all_goals simp [bitOf_daa8, bitOf_szyx, bitOf_par, *]

end Sys2Proof.Machine
end

section
/-!
SUPPORT. Decimal arithmetic by DAA (42_alu8.md R346, R395). A sum or difference of two packed bytes is off by 6 for
a decimal carry or borrow out of the low digit and by 0x60 for one out of the high digit, which is what DAA8 corrects.
-/

namespace Sys2Proof.Machine

open Sys2Proof.Claims

/-- The last two decimal digits of a number in the halves of a byte. -/
def bcd (n : Nat) : Byte := BitVec.ofNat 8 (n / 10 % 10 * 16 + n % 10)

/-- Hundreds are dropped. -/
theorem toNat_bcd {t u : Nat} (c : Nat) (ht : t < 10) (hu : u < 10) :
    (bcd (100 * c + 10 * t + u)).toNat = 16 * t + u := by
  rw [bcd, BitVec.toNat_ofNat]
  omega

/-! ## One decimal digit -/

/-- A digit and a carry out, from two digits and a carry in. -/
theorem exists_digit_add {u w k : Nat} (hu : u < 10) (hw : w < 10) (hk : k < 2) :
    ∃ y < 10, ∃ c < 2, u + w + k = 10 * c + y :=
  ⟨(u + w + k) % 10, Nat.mod_lt _ (by decide), (u + w + k) / 10, by omega, (Nat.div_add_mod _ 10).symm⟩

/-- A digit and a borrow out, from two digits and a borrow in. -/
theorem exists_digit_sub {u w k : Nat} (hu : u < 10) (hw : w < 10) (hk : k < 2) :
    ∃ y < 10, ∃ c < 2, u + 10 * c = w + k + y := by
  rcases Nat.lt_or_ge u (w + k) with h | h
  · exact ⟨u + 10 - (w + k), by omega, 1, by decide, by omega⟩
  · exact ⟨u - (w + k), by omega, 0, by decide, by omega⟩

/-! ## The correction -/

section
variable {a f : Byte} {k c : Nat} (hk : k < 2) (hc : c < 2)
  (hlow : (bitOf f 4 = true ∨ a.toNat % 16 > 9) ↔ k = 1) (hhigh : (bitOf f 0 = true ∨ a.toNat > 0x99) ↔ c = 1)
include hk hc hlow hhigh

/-- The correction is 6 for a low carry `k` and 0x60 for a high carry `c` (R346). -/
theorem toNat_daa8_of_add (hN : bitOf f 1 = false) : (daa8 a f).1.toNat = (a.toNat + 6 * k + 96 * c) % 256 := by
  obtain ⟨hres, -⟩ := daa8ResultAndFlags a f
  rw [hres, hN, if_neg Bool.false_ne_true, BitVec.toNat_add]
  simp only [hlow, hhigh]
  interval_cases k <;> interval_cases c <;> rfl

/-- The same for borrows. -/
theorem toNat_daa8_of_sub (hN : bitOf f 1 = true) : (daa8 a f).1.toNat = (a.toNat + 256 - (6 * k + 96 * c)) % 256 := by
  obtain ⟨hres, -⟩ := daa8ResultAndFlags a f
  rw [hres, hN, if_pos rfl, BitVec.toNat_sub]
  simp only [hlow, hhigh]
  interval_cases k <;> interval_cases c <;> simp <;> omega

end

/-! ## Two decimal digits -/

section
variable {a f : Byte} {t u v w : Nat} (ht : t < 10) (hu : u < 10) (hv : v < 10) (hw : w < 10)
include ht hu hv hw

/-- DAA of the binary sum of two packed bytes, with the carries of that sum in H and C. -/
theorem daa8_of_sum (ha : a.toNat = (16 * t + u + (16 * v + w)) % 256) (hN : bitOf f 1 = false)
    (hH : bitOf f 4 = true ↔ u + w > 15) (hC : bitOf f 0 = true ↔ 16 * t + u + (16 * v + w) > 255) :
    (daa8 a f).1 = bcd (10 * t + u + (10 * v + w)) ∧
      (bitOf (daa8 a f).2 0 = true ↔ 100 ≤ 10 * t + u + (10 * v + w)) := by
  obtain ⟨y, hy, k, hk2, hk⟩ := exists_digit_add hu hw Nat.two_pos
  obtain ⟨x, hx, c, hc2, hc⟩ := exists_digit_add ht hv hk2
  have hdecimal : 10 * t + u + (10 * v + w) = 100 * c + 10 * x + y := by omega
  have hbinary : 16 * t + u + (16 * v + w) + 6 * k = 160 * c + 16 * x + y := by omega
  have hlow : (bitOf f 4 = true ∨ a.toNat % 16 > 9) ↔ k = 1 := by
    rw [hH, ha]
    interval_cases k <;> omega
  have hhigh : (bitOf f 0 = true ∨ a.toNat > 0x99) ↔ c = 1 := by
    rw [hC, ha]
    interval_cases c <;> omega
  obtain ⟨-, -, -, hcarry, -⟩ := daa8ResultAndFlags a f
  rw [hcarry, hhigh, hdecimal]
  refine ⟨BitVec.eq_of_toNat_eq ?_, by omega⟩
  rw [toNat_daa8_of_add hk2 hc2 hlow hhigh hN, toNat_bcd c hx hy]
  omega

/-- DAA of the binary difference of two packed bytes, with the borrows of that difference in H and C. -/
theorem daa8_of_difference (ha : (a.toNat : Int) = ((16 * t + u : Nat) - (16 * v + w : Nat)) % 256)
    (hN : bitOf f 1 = true) (hH : bitOf f 4 = true ↔ u < w) (hC : bitOf f 0 = true ↔ 16 * t + u < 16 * v + w) :
    (daa8 a f).1 = bcd (100 + (10 * t + u) - (10 * v + w)) ∧
      (bitOf (daa8 a f).2 0 = true ↔ 10 * t + u < 10 * v + w) := by
  obtain ⟨y, hy, k, hk2, hk⟩ := exists_digit_sub hu hw Nat.two_pos
  obtain ⟨x, hx, c, hc2, hc⟩ := exists_digit_sub ht hv hk2
  have hdecimal : 100 + (10 * t + u) - (10 * v + w) = 100 * (1 - c) + 10 * x + y := by omega
  have hbinary : 16 * t + u + 160 * c = 16 * v + w + 16 * x + y + 6 * k := by omega
  have hlow : (bitOf f 4 = true ∨ a.toNat % 16 > 9) ↔ k = 1 := by
    rw [hH]
    interval_cases k <;> omega
  have hhigh : (bitOf f 0 = true ∨ a.toNat > 0x99) ↔ c = 1 := by
    rw [hC]
    interval_cases c <;> omega
  obtain ⟨-, -, -, hcarry, -⟩ := daa8ResultAndFlags a f
  rw [hcarry, hhigh, hdecimal]
  refine ⟨BitVec.eq_of_toNat_eq ?_, by omega⟩
  rw [toNat_daa8_of_sub hk2 hc2 hlow hhigh hN, toNat_bcd _ hx hy]
  omega

end

/-! ## The statement -/

/-- Settles O7: the flags that ADD8 and SUB8 leave are the carries and borrows that DAA8 asks for. -/
theorem daaGivesTheDecimalSumAndDifference : Obligations.DaaGivesTheDecimalSumAndDifference := by
  intro t u v w ht hu hv hw
  have ha : (bcd (10 * t + u)).toNat = 16 * t + u := by simpa using toNat_bcd 0 ht hu
  have hb : (bcd (10 * v + w)).toNat = 16 * v + w := by simpa using toNat_bcd 0 hv hw
  obtain ⟨hsum, -, hsumH, -, -, hsumN, hsumC⟩ := add8ResultAndFlags (bcd (10 * t + u)) (bcd (10 * v + w)) false
  obtain ⟨hdif, -, hdifH, -, -, hdifN, hdifC⟩ := sub8ResultAndFlags (bcd (10 * t + u)) (bcd (10 * v + w)) false
  have hu16 : (16 * t + u) % 16 = u := by omega
  have hw16 : (16 * v + w) % 16 = w := by omega
  simp only [ha, hb, hu16, hw16, Bool.toNat_false, Nat.add_zero, Nat.cast_zero, sub_zero]
    at hsum hsumH hsumC hdif hdifH hdifC
  obtain ⟨hsumRes, hsumCarry⟩ := daa8_of_sum ht hu hv hw (congrArg BitVec.toNat hsum) hsumN hsumH hsumC
  exact ⟨hsumRes, hsumCarry, daa8_of_difference ht hu hv hw hdif hdifN hdifH hdifC⟩

end Sys2Proof.Machine
end

section
/-!
SUPPORT. The 8-bit arithmetic and logic instructions (42_alu8.md R347 to R399): A and F written after no access or after
one read, and a byte of memory modified.
-/

namespace Sys2Proof.Machine

open Sys2Proof.Claims

/-- A and F from a register or immediate operand. -/
theorem State.next_putAF (s : State) (r : Byte × Byte) (n : Nat) :
    (.next ((s.putAF r).tick n) : Result) = .next (after (acc s r) n s.bus) :=
  rfl

/-- A and F from a memory operand, which is read once. -/
theorem State.next_putAF_memRead (s : State) (a : Word) (r : Byte × Byte) (n : Nat) :
    (.next (((s.memRead a).2.putAF r).tick n) : Result) = .next (after (acc s r) n (busAfterRead s a)) :=
  rfl

/-- An instruction that modifies a byte of memory reads it once and stores it once, and sets F. -/
theorem storesByte_of_exec_eq_modifyAt {i : Instr} {s : State} {a : Word} {g : Byte → Byte → Byte × Byte} {n : Nat}
    (h : exec i s = .next ((s.modifyAt a g).2.tick n)) :
    StoresByte i s a (g (byteFrom s a) s.f).1
      (after { s with f := (g (byteFrom s a) s.f).2 } n (busAfterRead s a)) := by
  rw [State.modifyAt_eq] at h
  exact storesByte_of_exec_eq h (fun x => s.bus.cell_read a x) (s.bus.memAnswer_read a a)

/-- Complementing is the exclusive or with all ones (R396). -/
theorem xor_0xFF (v : Byte) : v ^^^ 0xFF = ~~~v := BitVec.xor_allOnes

/-! ## The statements -/

/-- Settles O22: for each operation the operand forms in the order register, immediate, `(HL)`, `(ii+d)`, index half. -/
theorem addSubtractForms : Obligations.AddSubtractForms := by
  intro s z n d ii q
  rw [← s.ea_eq_indexed]
  exact ⟨s.next_putAF _ 4, s.next_putAF _ 7, s.next_putAF_memRead _ _ 7, s.next_putAF_memRead _ _ 19,
    s.next_putAF _ 8,
    s.next_putAF _ 4, s.next_putAF _ 7, s.next_putAF_memRead _ _ 7, s.next_putAF_memRead _ _ 19,
    s.next_putAF _ 8,
    s.next_putAF _ 4, s.next_putAF _ 7, s.next_putAF_memRead _ _ 7, s.next_putAF_memRead _ _ 19,
    s.next_putAF _ 8,
    s.next_putAF _ 4, s.next_putAF _ 7, s.next_putAF_memRead _ _ 7, s.next_putAF_memRead _ _ 19,
    s.next_putAF _ 8⟩

/-- Settles O23: the operand forms in the same order; CP writes back the A it found. -/
theorem logicAndCompareForms : Obligations.LogicAndCompareForms := by
  intro s z n d ii q
  rw [← s.ea_eq_indexed]
  exact ⟨s.next_putAF _ 4, s.next_putAF _ 7, s.next_putAF_memRead _ _ 7, s.next_putAF_memRead _ _ 19,
    s.next_putAF _ 8,
    s.next_putAF _ 4, s.next_putAF _ 7, s.next_putAF_memRead _ _ 7, s.next_putAF_memRead _ _ 19,
    s.next_putAF _ 8,
    s.next_putAF _ 4, s.next_putAF _ 7, s.next_putAF_memRead _ _ 7, s.next_putAF_memRead _ _ 19,
    s.next_putAF _ 8,
    s.next_putAF (s.a, _) 4, s.next_putAF (s.a, _) 7, s.next_putAF_memRead _ (s.a, _) 7,
    s.next_putAF_memRead _ (s.a, _) 19, s.next_putAF (s.a, _) 8⟩

/-- Settles O24: a register is written after F, a byte of memory between one read and one store. -/
theorem incrementDecrementByteForms : Obligations.IncrementDecrementByteForms := by
  intro s y ii q d
  rw [← s.ea_eq_indexed]
  exact ⟨congrArg Host.Outcome.next (State.tick_setR _ y _ 4),
    congrArg Host.Outcome.next (State.tick_setP _ ii q _ 8),
    storesByte_of_exec_eq_modifyAt rfl, storesByte_of_exec_eq_modifyAt rfl,
    congrArg Host.Outcome.next (State.tick_setR _ y _ 4),
    congrArg Host.Outcome.next (State.tick_setP _ ii q _ 8),
    storesByte_of_exec_eq_modifyAt rfl, storesByte_of_exec_eq_modifyAt rfl⟩

/-- Settles O25: the flag bytes of CPL, SCF and CCF by their masks. -/
theorem accumulatorAndFlagInstructions : Obligations.AccumulatorAndFlagInstructions := by
  intro s x
  refine ⟨s.next_putAF _ 4, s.next_putAF _ 8, ⟨cplFlags (~~~s.a) s.f, ?_, ?_⟩, ⟨scfFlags s.a s.f, rfl, ?_⟩,
    ⟨ccfFlags s.a s.f, rfl, ?_⟩⟩
  · rw [← xor_0xFF]
    exact s.next_putAF _ 4
  · simp [cplFlags]
  · simp [scfFlags]
  · simp [ccfFlags]

end Sys2Proof.Machine
end

section
/-!
SUPPORT. The 16-bit arithmetic (43_alu16.md R400 to R409): each flag byte bit by bit, signed overflow, and a pair or an
index register written with F.
-/

namespace Sys2Proof.Machine

open Sys2Proof.Claims

/-! ## The flag bytes -/

/-- The bits of the high byte are those of the word, eight places up. -/
theorem bitOf_hiByte (w : Word) (n : Nat) : bitOf (hiByte w) n = (decide (n < 8) && w.getLsbD (8 + n)) := by
  rw [bitOf, hiByte, BitVec.getLsbD_extractLsb']

/-- The flags of R400. -/
theorem bitOf_add16 (a b : Word) (f : Byte) (n : Nat) :
    bitOf (add16 a b f).2 n = (bitOf f n && bitOf 0xC4 n || bitOf (hiByte (add16 a b f).1) n && bitOf 0x28 n
      || decide (a.toNat % 4096 + b.toNat % 4096 > 4095) && bitOf 0x10 n
      || decide (a.toNat + b.toNat > 0xFFFF) && bitOf 0x01 n) := by
  simp only [add16, bitOf_or, bitOf_and, bitOf_flagIf]

/-- The flags of R401 for `ADC16`. -/
theorem bitOf_adc16 (a b : Word) (c : Bool) (n : Nat) :
    bitOf (adc16 a b c).2 n = (bitOf (hiByte (adc16 a b c).1) n && bitOf 0xA8 n
      || (adc16 a b c).1 == 0 && bitOf 0x40 n
      || decide (a.toNat % 4096 + b.toNat % 4096 + c.toNat > 4095) && bitOf 0x10 n
      || (a.getLsbD 15 == b.getLsbD 15 && (adc16 a b c).1.getLsbD 15 != a.getLsbD 15) && bitOf 0x04 n
      || decide (a.toNat + b.toNat + c.toNat > 0xFFFF) && bitOf 0x01 n) := by
  simp only [adc16, bitOf_or, bitOf_and, bitOf_flagIf]

/-- The flags of R401 for `SBC16`, the borrows as comparisons. -/
theorem bitOf_sbc16 (a b : Word) (c : Bool) (n : Nat) :
    bitOf (sbc16 a b c).2 n = (bitOf 0x02 n || bitOf (hiByte (sbc16 a b c).1) n && bitOf 0xA8 n
      || (sbc16 a b c).1 == 0 && bitOf 0x40 n
      || decide (a.toNat % 4096 < b.toNat % 4096 + c.toNat) && bitOf 0x10 n
      || (a.getLsbD 15 != b.getLsbD 15 && (sbc16 a b c).1.getLsbD 15 != a.getLsbD 15) && bitOf 0x04 n
      || decide (a.toNat < b.toNat + c.toNat) && bitOf 0x01 n) := by
  have hhalf : (a.toNat % 4096 : Nat) - (b.toNat % 4096 : Nat) - (c.toNat : Int) < 0 ↔
      a.toNat % 4096 < b.toNat % 4096 + c.toNat := by omega
  have hborrow : (a.toNat : Int) - b.toNat - c.toNat < 0 ↔ a.toNat < b.toNat + c.toNat := by omega
  simp only [sbc16, bitOf_or, bitOf_and, bitOf_flagIf, hhalf, hborrow]

/-! ## Results and signed overflow -/

theorem add16_result (a b : Word) (f : Byte) : (add16 a b f).1 = a + b := by
  simp [add16, BitVec.ofNat_add]

theorem toNat_sbc16 (a b : Word) (c : Bool) :
    ((sbc16 a b c).1.toNat : Int) = ((a.toNat : Int) - b.toNat - c.toNat) % 65536 := by
  rw [sbc16, BitVec.toNat_ofInt]
  omega

/-- Bit 15 of a word is its sign bit, so the signs of R401 say signed overflow of the sum. -/
theorem adc16_overflow (a b : Word) (c : Bool) :
    (a.getLsbD 15 == b.getLsbD 15 && (adc16 a b c).1.getLsbD 15 != a.getLsbD 15) = true ↔
      a.toInt + b.toInt + c.toNat < -32768 ∨ 32767 < a.toInt + b.toInt + c.toNat :=
  (msb_overflow_of_add (w := 15) (ofNat_add_eq_ofInt a b c)).trans (by omega)

/-- The same for the difference. -/
theorem sbc16_overflow (a b : Word) (c : Bool) :
    (a.getLsbD 15 != b.getLsbD 15 && (sbc16 a b c).1.getLsbD 15 != a.getLsbD 15) = true ↔
      a.toInt - b.toInt - c.toNat < -32768 ∨ 32767 < a.toInt - b.toInt - c.toNat :=
  (msb_overflow_of_sub (w := 15) (ofInt_sub_eq_ofInt a b c)).trans (by omega)

/-! ## A result and F written -/

/-- HL and F: the model writes HL first, the statements F first. -/
theorem State.next_setHL_setF (s : State) (r : Word × Byte) (n : Nat) :
    (.next (((s.setHL r.1).setF r.2).tick n) : Result) = .next (after (State.setHL { s with f := r.2 } r.1) n s.bus) :=
  rfl

/-- The same for an index register. -/
theorem State.next_setIndex_setF (s : State) (ii : IndexReg) (r : Word × Byte) (n : Nat) :
    (.next (((s.setIndex ii r.1).setF r.2).tick n) : Result) =
      .next (after (State.setIndex { s with f := r.2 } ii r.1) n s.bus) := by
  cases ii <;> rfl

/-! ## The statements -/

/-- Settles O9: the flags by their bits, and the three signs of P/V say signed overflow. -/
theorem adcSbc16ResultAndFlags : Obligations.AdcSbc16ResultAndFlags := by
  intro a b c
  have hadd : bitOf (adc16 a b c).2 2 =
      (a.getLsbD 15 == b.getLsbD 15 && (adc16 a b c).1.getLsbD 15 != a.getLsbD 15) := by
    simp [bitOf_adc16]
  have hsub : bitOf (sbc16 a b c).2 2 =
      (a.getLsbD 15 != b.getLsbD 15 && (sbc16 a b c).1.getLsbD 15 != a.getLsbD 15) := by
    simp [bitOf_sbc16]
  constructor
  · refine ⟨rfl, ?_, ?_, ?_, ?_, ?_, hadd, hadd ▸ adc16_overflow a b c, ?_, ?_⟩ <;> simp [bitOf_adc16, bitOf_hiByte]
  · refine ⟨toNat_sbc16 a b c, ?_, ?_, ?_, ?_, ?_, hsub, hsub ▸ sbc16_overflow a b c, ?_, ?_⟩ <;>
      simp [bitOf_sbc16, bitOf_hiByte]

/-- Settles O8: the sum without a carry in, and the flags by their bits. -/
theorem add16ResultAndFlags : Obligations.Add16ResultAndFlags := by
  intro a b f
  refine ⟨add16_result a b f, ?_, ?_, ?_, ?_, ?_, ?_, ?_, ?_⟩ <;> simp [bitOf_add16, bitOf_hiByte]

/-- Settles O26: HL or an index register with F, or a pair or an index register alone. -/
theorem arithmetic16Forms : Obligations.Arithmetic16Forms := by
  intro s p ii r
  exact ⟨s.next_setHL_setF _ 11, s.next_setHL_setF _ 15, s.next_setHL_setF _ 15,
    congrArg Host.Outcome.next (s.tick_setRP p _ 6), congrArg Host.Outcome.next (s.tick_setRP p _ 6),
    s.next_setIndex_setF ii _ 15,
    congrArg Host.Outcome.next (s.tick_setIndex ii _ 10), congrArg Host.Outcome.next (s.tick_setIndex ii _ 10)⟩

end Sys2Proof.Machine
end

section
/-!
SUPPORT. Rotates, shifts and single bits (44_rotate_shift_bit.md R410 to R460): a rotate or shift by its direction and
the bit it moves in, the flag bytes bit by bit, a byte joined from two halves, and a byte of memory modified and copied
to a register.
-/

namespace Sys2Proof.Machine

open Sys2Proof.Claims

/-! ## One place left or right -/

/-- A bit moved in at the right end: the others move up. -/
theorem bitOf_shiftLeft_or (v w : Byte) {k : Nat} (hk : k < 7) (hw : bitOf w (k + 1) = false) :
    bitOf (v <<< 1 ||| w) (k + 1) = bitOf v k := by
  have hk8 : k + 1 < 8 := by omega
  rw [bitOf_or, hw, Bool.or_false, bitOf, BitVec.getLsbD_shiftLeft, decide_eq_true hk8]
  simp [bitOf]

/-- A bit moved in at the left end: the others move down. -/
theorem bitOf_ushiftRight_or (v w : Byte) {k : Nat} (hw : bitOf w k = false) :
    bitOf (v >>> 1 ||| w) k = bitOf v (k + 1) := by
  rw [bitOf_or, hw, Bool.or_false, bitOf, BitVec.getLsbD_ushiftRight, Nat.add_comm, bitOf]

theorem bitOf_shiftLeft_one_zero (v : Byte) : bitOf (v <<< 1) 0 = false := by
  simp [bitOf]

theorem bitOf_ushiftRight_one_seven (v : Byte) : bitOf (v >>> 1) 7 = false := by
  simp [bitOf]

theorem bitOf_0x01_succ (k : Nat) : bitOf 0x01 (k + 1) = false := by
  simp [bitOf, BitVec.getLsbD_one]

theorem bitOf_0x80_of_lt {k : Nat} (hk : k < 7) : bitOf 0x80 k = false := by
  interval_cases k <;> rfl

/-- The four operations to the left put bit 7 out and move the others up (R410). -/
theorem rot8_left {op : RotOp} (h : op ∈ [RotOp.rlc, .rl, .sla, .sll]) (v : Byte) (cin : Bool) :
    (rot8 op v cin).2 = bitOf v 7 ∧ ∀ k < 7, bitOf (rot8 op v cin).1 (k + 1) = bitOf v k := by
  have hshape : ∃ c, rot8 op v cin = (v <<< 1 ||| flagIf c 0x01, bitOf v 7) := by
    simp only [List.mem_cons, List.not_mem_nil, or_false] at h
    obtain rfl | rfl | rfl | rfl := h
    · exact ⟨bitOf v 7, rfl⟩
    · exact ⟨cin, rfl⟩
    · exact ⟨false, congrArg (·, bitOf v 7) BitVec.or_zero.symm⟩
    · exact ⟨true, rfl⟩
  obtain ⟨c, hc⟩ := hshape
  rw [hc]
  exact ⟨rfl, fun k hk => bitOf_shiftLeft_or v _ hk (by rw [bitOf_flagIf, bitOf_0x01_succ, Bool.and_false])⟩

/-- The four operations to the right put bit 0 out and move the others down (R410). -/
theorem rot8_right {op : RotOp} (h : op ∈ [RotOp.rrc, .rr, .sra, .srl]) (v : Byte) (cin : Bool) :
    (rot8 op v cin).2 = bitOf v 0 ∧ ∀ k < 7, bitOf (rot8 op v cin).1 k = bitOf v (k + 1) := by
  have hflag (c : Bool) : ∀ k < 7, bitOf (flagIf c 0x80) k = false := fun k hk => by
    rw [bitOf_flagIf, bitOf_0x80_of_lt hk, Bool.and_false]
  have hshape : ∃ w, (∀ k < 7, bitOf w k = false) ∧ rot8 op v cin = (v >>> 1 ||| w, bitOf v 0) := by
    simp only [List.mem_cons, List.not_mem_nil, or_false] at h
    obtain rfl | rfl | rfl | rfl := h
    · exact ⟨_, hflag (bitOf v 0), rfl⟩
    · exact ⟨_, hflag cin, rfl⟩
    · exact ⟨_, fun k hk => by rw [bitOf_and, bitOf_0x80_of_lt hk, Bool.and_false], rfl⟩
    · exact ⟨_, hflag false, congrArg (·, bitOf v 0) BitVec.or_zero.symm⟩
  obtain ⟨w, hw, hshape⟩ := hshape
  rw [hshape]
  exact ⟨rfl, fun k hk => bitOf_ushiftRight_or v w (hw k hk)⟩

/-! ## Flag bytes -/

/-- The flags of `ROTF` (R410). -/
theorem bitOf_rotf (op : RotOp) (v f : Byte) (n : Nat) :
    bitOf (rotf op v f).2 n = (bitOf (szyx (rot8 op v (bitOf f 0)).1) n || bitOf (par (rot8 op v (bitOf f 0)).1) n
      || (rot8 op v (bitOf f 0)).2 && bitOf 0x01 n) := by
  simp only [rotf, bitOf_or, bitOf_flagIf]

/-- The flags of the short accumulator rotates (R412 to R415). -/
theorem bitOf_rotA (op : RotOp) (a f : Byte) (n : Nat) :
    bitOf (rotA op a f).2 n = (bitOf f n && bitOf 0xC4 n || bitOf (rot8 op a (bitOf f 0)).1 n && bitOf 0x28 n
      || (rot8 op a (bitOf f 0)).2 && bitOf 0x01 n) := by
  simp only [rotA, bitOf_or, bitOf_and, bitOf_flagIf]

/-- The flags of `BITF` (R411). -/
theorem bitOf_bitf (b : BitVec 3) (v yx f : Byte) (n : Nat) :
    bitOf (bitf b v yx f) n = (bitOf f n && bitOf 0x01 n || bitOf 0x10 n || bitOf yx n && bitOf 0x28 n
      || !bitOf v b.toNat && bitOf 0x44 n || (b == 7 && bitOf v 7) && bitOf 0x80 n) := by
  have hsign : (b == 7 && bitOf v b.toNat) = (b == 7 && bitOf v 7) := by
    by_cases h : b = 7
    · rw [h]
      rfl
    · rw [beq_false_of_ne h, Bool.false_and, Bool.false_and]
  simp only [bitf, bitOf_or, bitOf_and, bitOf_flagIf, hsign]

theorem bitOf_szpKeepC (v f : Byte) (n : Nat) :
    bitOf (szpKeepC v f) n = (bitOf f n && bitOf 0x01 n || bitOf (szyx v) n || bitOf (par v) n) := by
  simp only [szpKeepC, bitOf_or, bitOf_and]

/-- S, Z, bits 5 and 3 and parity of a byte, H and N 0, C kept (R438, R439, R501). -/
theorem szpKeepC_bits (v f : Byte) :
    ResultFlags (szpKeepC v f) v ∧ ParityFlag (szpKeepC v f) v ∧ bitOf (szpKeepC v f) 4 = false ∧
      bitOf (szpKeepC v f) 1 = false ∧ bitOf (szpKeepC v f) 0 = bitOf f 0 := by
  refine ⟨resultFlags_of_szyx ?_ ?_ ?_ ?_, parityFlag_of_par ?_, ?_, ?_, ?_⟩ <;>
    simp [bitOf_szpKeepC, bitOf_szyx, bitOf_par]

/-! ## Halves of a byte -/

theorem mkByte_eq_shift_or (hi lo : BitVec 4) : mkByte hi lo = (hi.setWidth 8 <<< 4) ||| lo.setWidth 8 := by
  rw [mkByte, BitVec.append_def]
  simp [BitVec.shiftLeftZeroExtend_eq]

theorem setWidth_hiNibble (v : Byte) : (hiNibble v).setWidth 8 = v >>> 4 := by
  ext i hi
  interval_cases i <;> simp [hiNibble]

theorem setWidth_loNibble (v : Byte) : (loNibble v).setWidth 8 = v &&& 0x0F := by
  ext i hi
  interval_cases i <;> simp [loNibble]

/-- The high half stays in its place. -/
theorem mkByte_hiNibble (v : Byte) (lo : BitVec 4) : mkByte (hiNibble v) lo = (v &&& 0xF0) ||| lo.setWidth 8 := by
  have hplace : v >>> 4 <<< 4 = v &&& 0xF0 := by
    ext i hi
    interval_cases i <;> simp
  rw [mkByte_eq_shift_or, setWidth_hiNibble, hplace]

/-- The low half moves up. -/
theorem mkByte_loNibble (v : Byte) (lo : BitVec 4) : mkByte (loNibble v) lo = (v <<< 4) ||| lo.setWidth 8 := by
  have hplace : (v &&& 0x0F) <<< 4 = v <<< 4 := by
    ext i hi
    interval_cases i <;> simp
  rw [mkByte_eq_shift_or, setWidth_loNibble, hplace]

/-! ## A register or a byte of memory modified -/

/-- A register modified, with F. -/
theorem State.tick_modifyR (s : State) (z : Reg8) (g : Byte → Byte → Byte × Byte) (n : Nat) :
    (s.modifyR z g).tick n =
      after (State.setR { s with f := (g (s.getR z) s.f).2 } z (g (s.getR z) s.f).1) n s.bus :=
  State.tick_eq_after n (s.modifyR_bus z g)

/-- An instruction that modifies a byte of memory and copies the result to a register. -/
theorem storesByte_of_exec_eq_modifyAt_setR {i : Instr} {s : State} {a : Word} {g : Byte → Byte → Byte × Byte}
    {z : Reg8} {n : Nat} (h : exec i s = .next (((s.modifyAt a g).2.setR z (s.modifyAt a g).1).tick n)) :
    StoresByte i s a (g (byteFrom s a) s.f).1
      (after (State.setR { s with f := (g (byteFrom s a) s.f).2 } z (g (byteFrom s a) s.f).1) n (busAfterRead s a)) := by
  rw [State.modifyAt_eq] at h
  refine storesByte_of_exec_eq (h.trans (congrArg Host.Outcome.next ?_)) (fun x => s.bus.cell_read a x)
    (s.bus.memAnswer_read a a)
  cases z <;> rfl

/-- An instruction that reads a byte and stores another in its place, with A and F written: `RLD` and `RRD`. -/
theorem storesByte_of_exec_eq_memRead_memWrite_putAF {i : Instr} {s : State} {a : Word} {v : Byte} {r : Byte × Byte}
    {n : Nat} (h : exec i s = .next ((((s.memRead a).2.memWrite a v).putAF r).tick n)) :
    StoresByte i s a v (after { s with a := r.1, f := r.2 } n (busAfterRead s a)) :=
  storesByte_of_exec_eq h (fun x => s.bus.cell_read a x) (s.bus.memAnswer_read a a)

/-! ## The statements -/

/-- Settles O10: the bits inside by the direction, the end bit by the operation, the flags by their bits. -/
theorem rot8ResultAndFlags : Obligations.Rot8ResultAndFlags := by
  refine ⟨fun v cin => ⟨fun op h => rot8_left h v cin, fun op h => rot8_right h v cin, ?_⟩, fun op v f => ?_⟩
  · simp [rot8, bitOf_shiftLeft_one_zero, bitOf_ushiftRight_one_seven]
  · refine ⟨rfl, resultFlags_of_szyx ?_ ?_ ?_ ?_, parityFlag_of_par ?_, ?_, ?_, ?_⟩ <;>
      simp [bitOf_rotf, bitOf_szyx, bitOf_par]

/-- Settles O11: the flags by their bits. -/
theorem bitTestFlags : Obligations.BitTestFlags := by
  intro b v yx f
  refine ⟨?_, ?_, ?_, ?_, ?_, ?_, ?_, ?_⟩ <;> simp [bitOf_bitf]

/-- Settles O27: a register's write leaves the bus agent, and `rotA` is the flag byte of the accumulator forms. -/
theorem rotateRegisterForms : Obligations.RotateRegisterForms := by
  intro s z
  have hreg (op : RotOp) := congrArg (Host.Outcome.next : State → Result) (s.tick_modifyR z (rotf op) 8)
  refine ⟨hreg .rlc, hreg .rrc, hreg .rl, hreg .rr, hreg .sla, hreg .sra, hreg .sll, hreg .srl, fun p hp => ?_⟩
  have hexec : exec p.1 s = .next ((s.putAF (rotA p.2 s.a s.f)).tick 4) := by
    simp only [List.mem_cons, List.not_mem_nil, or_false] at hp
    obtain rfl | rfl | rfl | rfl := hp <;> rfl
  refine ⟨(rotA p.2 s.a s.f).2, hexec.trans (s.next_putAF _ 4), ?_, ?_, ?_, ?_, ?_, ?_, ?_, ?_⟩ <;>
    simp [bitOf_rotA]

/-- Settles O28: for the eight operations `(HL)`, then `(ii+d)`, then `(ii+d)` with a copy. -/
theorem rotateMemoryForms : Obligations.RotateMemoryForms := by
  intro s ii d z
  rw [← s.ea_eq_indexed]
  exact ⟨storesByte_of_exec_eq_modifyAt rfl, storesByte_of_exec_eq_modifyAt rfl, storesByte_of_exec_eq_modifyAt rfl,
    storesByte_of_exec_eq_modifyAt rfl, storesByte_of_exec_eq_modifyAt rfl, storesByte_of_exec_eq_modifyAt rfl,
    storesByte_of_exec_eq_modifyAt rfl, storesByte_of_exec_eq_modifyAt rfl,
    storesByte_of_exec_eq_modifyAt rfl, storesByte_of_exec_eq_modifyAt rfl, storesByte_of_exec_eq_modifyAt rfl,
    storesByte_of_exec_eq_modifyAt rfl, storesByte_of_exec_eq_modifyAt rfl, storesByte_of_exec_eq_modifyAt rfl,
    storesByte_of_exec_eq_modifyAt rfl, storesByte_of_exec_eq_modifyAt rfl,
    storesByte_of_exec_eq_modifyAt_setR rfl, storesByte_of_exec_eq_modifyAt_setR rfl,
    storesByte_of_exec_eq_modifyAt_setR rfl, storesByte_of_exec_eq_modifyAt_setR rfl,
    storesByte_of_exec_eq_modifyAt_setR rfl, storesByte_of_exec_eq_modifyAt_setR rfl,
    storesByte_of_exec_eq_modifyAt_setR rfl, storesByte_of_exec_eq_modifyAt_setR rfl⟩

/-- Settles O29: BIT writes F after no access or one read; SET and RES modify a register or a byte and put the old F
back. -/
theorem bitTestSetAndResetForms : Obligations.BitTestSetAndResetForms := by
  intro s b x z ii d
  rw [← s.ea_eq_indexed]
  exact ⟨rfl, rfl, rfl, congrArg Host.Outcome.next (s.tick_setR z _ 8),
    storesByte_of_exec_eq_modifyAt (g := keepF (setBit b)) rfl,
    storesByte_of_exec_eq_modifyAt (g := keepF (setBit b)) rfl,
    storesByte_of_exec_eq_modifyAt_setR (g := keepF (setBit b)) rfl,
    congrArg Host.Outcome.next (s.tick_setR z _ 8),
    storesByte_of_exec_eq_modifyAt (g := keepF (resBit b)) rfl,
    storesByte_of_exec_eq_modifyAt (g := keepF (resBit b)) rfl,
    storesByte_of_exec_eq_modifyAt_setR (g := keepF (resBit b)) rfl⟩

/-- Settles O30: the halves joined are the shifts and masks of the statement, and `szpKeepC` is the flag byte. -/
theorem digitRotates : Obligations.DigitRotates := by
  intro s
  have hrld := storesByte_of_exec_eq_memRead_memWrite_putAF (i := .rld) (s := s) rfl
  have hrrd := storesByte_of_exec_eq_memRead_memWrite_putAF (i := .rrd) (s := s) rfl
  simp only [mkByte_hiNibble, mkByte_loNibble, setWidth_hiNibble, setWidth_loNibble] at hrld hrrd
  exact ⟨⟨_, hrld, szpKeepC_bits _ _⟩, ⟨_, hrrd, szpKeepC_bits _ _⟩⟩

end Sys2Proof.Machine
end

section
/-!
SUPPORT. Jumps, calls and returns (45_control_transfer.md R470 to R483): a conditional jump as one write of PC, the
count of DJNZ, a call as a word pushed, and a return as a word popped.
-/

namespace Sys2Proof.Machine

open Sys2Proof.Claims

/-! ## Jumps -/

/-- A jump that may not be taken writes PC either way. -/
theorem State.tick_ite_jump (s : State) (c : Bool) (target : Word) (n : Nat) :
    (if c then s.jump target else s).tick n = after { s with pc := if c then target else s.pc } n s.bus := by
  cases c <;> rfl

/-- `DJNZ e` tests B after the decrement; that is 0 just where B was 1 (R476). -/
theorem exec_djnzE (e : Byte) (s : State) :
    exec (.djnzE e) s =
      .next (if s.b = 1 then after { s with b := 0 } 8 s.bus
        else after { s with b := s.b - 1, pc := s.pc + e.signExtend 16 } 13 s.bus) := by
  change Host.Outcome.next (if s.b - 1 != 0 then (State.jumpRel { s with b := s.b - 1 } e).tick 13
    else State.tick 8 { s with b := s.b - 1 }) = _
  by_cases hb : s.b = 1
  · have hzero : s.b - 1 = 0 := sub_eq_zero.mpr hb
    rw [if_pos hb, hzero]
    rfl
  · have hne : s.b - 1 ≠ 0 := sub_ne_zero.mpr hb
    rw [if_neg hb, if_pos (bne_iff_ne.mpr hne)]
    rfl

/-! ## Calls -/

/-- An instruction that calls a target and adds T-states. -/
theorem storesWordHighFirst_of_exec_eq_call {i : Instr} {s : State} {target : Word} {n : Nat}
    (h : exec i s = .next ((s.call target).tick n)) :
    StoresWordHighFirst i s (s.sp - 2) s.pc (after { s with sp := s.sp - 2, pc := target } n s.bus) := by
  have hsp : s.sp - 2 + 1 = s.sp - 1 := by bv_omega
  refine ⟨?_, wordStored_of_bus_eq rfl⟩
  rw [h, State.call, State.push16_eq_pushed, pushed, hsp]
  rfl

/-- The target of `RST` is eight times its number (R483). -/
theorem setWidth_shiftLeft_three (t : BitVec 3) : t.setWidth 16 <<< 3 = BitVec.ofNat 16 (t.toNat * 8) := by
  apply BitVec.eq_of_toNat_eq
  simp [Nat.shiftLeft_eq]

/-! ## Returns -/

/-- `popPC` with its word read at the SP of before. -/
theorem State.tick_popPC (s : State) (n : Nat) :
    s.popPC.tick n = after { s with sp := s.sp + 2, pc := wordFrom s s.sp } n (busAfterReads s s.sp) := by
  rw [State.popPC, State.pop16_eq_wordFrom]
  rfl

/-- `returnFromHandler` with its word read at the SP of before. -/
theorem State.tick_returnFromHandler (s : State) (n : Nat) :
    s.returnFromHandler.tick n =
      after { s with sp := s.sp + 2, pc := wordFrom s s.sp, iff1 := s.iff2 } n (busAfterReads s s.sp) := by
  rw [State.returnFromHandler, State.pop16_eq_wordFrom]
  rfl

/-! ## The statements -/

/-- Settles O31: each jump writes PC and adds T-states; DJNZ jumps unless B was 1. -/
theorem jumpForms : Obligations.JumpForms := by
  intro s cc nn e
  exact ⟨rfl, congrArg Host.Outcome.next (s.tick_ite_jump (s.cond cc) nn 10), rfl, rfl, rfl, rfl, rfl, exec_djnzE e s⟩

/-- Settles O32: a call pushes PC and jumps; the condition chooses between the call and 10 T-states. -/
theorem callAndRestartForms : Obligations.CallAndRestartForms := by
  intro s cc nn t holds
  have hcc : exec (.callCcNn cc nn) s = .next (if holds then (s.call nn).tick 17 else s.tick 10) := rfl
  have hrst : exec (.rstP t) s = .next ((s.call (BitVec.ofNat 16 (t.toNat * 8))).tick 11) := by
    rw [← setWidth_shiftLeft_three]
    rfl
  refine ⟨storesWordHighFirst_of_exec_eq_call rfl, fun h => storesWordHighFirst_of_exec_eq_call ?_, fun h => ?_,
    storesWordHighFirst_of_exec_eq_call hrst⟩
  · rw [hcc, if_pos h]
  · rw [hcc, h]
    rfl

/-- Settles O33: each return pops PC, or costs 5 T-states where the condition is false. -/
theorem returnForms : Obligations.ReturnForms := by
  intro s cc x holds
  have hcc : exec (.retCc cc) s = .next (if holds then s.popPC.tick 11 else s.tick 5) := rfl
  have hreturn := congrArg (Host.Outcome.next : State → Result) (s.tick_returnFromHandler 14)
  refine ⟨congrArg Host.Outcome.next (s.tick_popPC 10), ?_, hreturn, hreturn⟩
  rw [hcc, State.tick_popPC]
  rfl

end Sys2Proof.Machine
end

section
/-!
SUPPORT. The block moves and compares (46_block.md R490 to R497): their flag bytes bit by bit, one iteration as a whole
next state, and the end of a repeating form by the condition that it stops.
-/

namespace Sys2Proof.Machine

open Sys2Proof.Claims

/-! ## Flag bytes -/

/-- Bit 1 of a byte moved to bit 5 (R490, R494). -/
theorem bitOf_and_two_shiftLeft_four (v : Byte) {n : Nat} (hn : n < 8) :
    bitOf ((v &&& 2#8) <<< 4) n = (bitOf v 1 && bitOf 0x20 n) := by
  interval_cases n <;> simp [bitOf]

/-- The flags of a block move: S, Z and C kept, bits 5 and 3 from the byte plus A, P/V by BC, H and N 0 (R490). -/
theorem blockMoveFlags_bits (v a : Byte) (bc : Word) (f : Byte) :
    let g := blockMoveFlags v a bc f
    bitOf g 7 = bitOf f 7 ∧ bitOf g 6 = bitOf f 6 ∧ bitOf g 5 = bitOf (v + a) 1 ∧ bitOf g 4 = false ∧
      bitOf g 3 = bitOf (v + a) 3 ∧ (bitOf g 2 = true ↔ bc ≠ 0) ∧ bitOf g 1 = false ∧ bitOf g 0 = bitOf f 0 := by
  refine ⟨?_, ?_, ?_, ?_, ?_, ?_, ?_, ?_⟩ <;> simp [blockMoveFlags, bitOf_and_two_shiftLeft_four]

/-- The flags of a block compare: S and Z from A - v, bits 5 and 3 from A - v less the half borrow, H that borrow, P/V
by BC, N 1, C kept (R494). -/
theorem blockCompareFlags_bits (a v : Byte) (bc : Word) (f : Byte) :
    let g := blockCompareFlags a v bc f
    let borrow : Byte := if a.toNat % 16 < v.toNat % 16 then 1 else 0
    bitOf g 7 = bitOf (a - v) 7 ∧ (bitOf g 6 = true ↔ a = v) ∧ bitOf g 5 = bitOf (a - v - borrow) 1 ∧
      (bitOf g 4 = true ↔ a.toNat % 16 < v.toNat % 16) ∧ bitOf g 3 = bitOf (a - v - borrow) 3 ∧
      (bitOf g 2 = true ↔ bc ≠ 0) ∧ bitOf g 1 = true ∧ bitOf g 0 = bitOf f 0 := by
  have hhalf : (a.toNat : Int) % 16 < (v.toNat : Int) % 16 ↔ a.toNat % 16 < v.toNat % 16 := by omega
  have hborrow : flagIf (decide (a.toNat % 16 < v.toNat % 16)) 1#8 =
      if a.toNat % 16 < v.toNat % 16 then 1#8 else 0#8 := by
    simp [flagIf]
  have hzero : a - v = 0#8 ↔ a = v := sub_eq_zero
  refine ⟨?_, ?_, ?_, ?_, ?_, ?_, ?_, ?_⟩ <;>
    simp [blockCompareFlags, bitOf_and_two_shiftLeft_four, hhalf, hborrow, hzero]

/-! ## One iteration -/

@[simp] theorem State.blockMove_bc (s : State) (step : Word) : (s.blockMove step).bc = s.bc - 1 := by
  rw [State.blockMove_eq]
  exact mkWord_hiByte_loByte _

@[simp] theorem State.blockCompare_2_bc (s : State) (step : Word) : (s.blockCompare step).2.bc = s.bc - 1 := by
  rw [State.blockCompare_eq]
  exact mkWord_hiByte_loByte _

/-- A block compare answers that A is not the byte at HL. -/
theorem State.blockCompare_1_iff (s : State) (step : Word) :
    (s.blockCompare step).1 = true ↔ s.a ≠ byteFrom s s.hl := by
  rw [State.blockCompare_eq]
  exact bne_iff_ne.trans sub_ne_zero

/-- The end of a repeating instruction by the condition `ended` that it does not repeat (R491, R495). -/
theorem State.repeatIf_eq_of_iff_not (s : State) {again : Bool} {ended : Prop} [Decidable ended]
    (h : again = true ↔ ¬ended) :
    s.repeatIf again =
      { s with pc := if ended then s.pc else s.pc - 2, tStates := s.tStates + if ended then 16 else 21 } := by
  by_cases hended : ended
  · rw [Bool.eq_false_iff.mpr fun hagain => h.mp hagain hended, if_pos hended, if_pos hended]
    rfl
  · rw [h.mpr hended, if_neg hended, if_neg hended]
    rfl

/-- An instruction that is one block move, then leaves PC at `pc` and adds T-states. -/
theorem storesByte_of_exec_eq_blockMove {i : Instr} {s : State} {step pc hl de : Word} {n : Nat}
    (hhl : s.hl + step = hl) (hde : s.de + step = de)
    (h : exec i s = .next { s.blockMove step with pc := pc, tStates := s.tStates + n }) :
    StoresByte i s s.de (byteFrom s s.hl)
      (after
        { s with
          b := hiByte (s.bc - 1), c := loByte (s.bc - 1), d := hiByte de, e := loByte de, h := hiByte hl, l := loByte hl
          f := blockMoveFlags (byteFrom s s.hl) s.a (s.bc - 1) s.f, pc := pc }
        n (busAfterRead s s.hl)) := by
  rw [State.blockMove_eq, hhl, hde] at h
  exact storesByte_of_exec_eq h (fun x => s.bus.cell_read s.hl x) (s.bus.memAnswer_read s.hl s.de)

/-- One block compare, then PC at `pc` and T-states added. -/
theorem State.blockCompare_eq_after (s : State) {step hl : Word} (hhl : s.hl + step = hl) (pc : Word) (n : Nat) :
    { (s.blockCompare step).2 with pc := pc, tStates := s.tStates + n } =
      after
        { s with
          b := hiByte (s.bc - 1), c := loByte (s.bc - 1), h := hiByte hl, l := loByte hl
          f := blockCompareFlags s.a (byteFrom s s.hl) (s.bc - 1) s.f, pc := pc }
        n (busAfterRead s s.hl) := by
  rw [State.blockCompare_eq, hhl]
  rfl

/-- A block move that does not repeat keeps PC (R490, R492). -/
theorem State.tick_blockMove (s : State) (step : Word) (n : Nat) :
    (s.blockMove step).tick n = { s.blockMove step with pc := s.pc, tStates := s.tStates + n } := by
  rw [State.blockMove_eq]
  rfl

/-- A block compare that does not repeat keeps PC (R494, R496). -/
theorem State.tick_blockCompare (s : State) (step : Word) (n : Nat) :
    (s.blockCompare step).2.tick n = { (s.blockCompare step).2 with pc := s.pc, tStates := s.tStates + n } := by
  rw [State.blockCompare_eq]
  rfl

/-- A block move that repeats goes on until BC is 0 (R491, R493). -/
theorem State.blockMove_repeatIf (s : State) (step : Word) :
    (s.blockMove step).repeatIf ((s.blockMove step).bc != 0) =
      { s.blockMove step with
        pc := if s.bc - 1 = 0 then s.pc else s.pc - 2
        tStates := s.tStates + if s.bc - 1 = 0 then 16 else 21 } := by
  rw [State.blockMove_bc, State.repeatIf_eq_of_iff_not _ bne_iff_ne, State.blockMove_eq]

/-- A block compare that repeats goes on until BC is 0 or A is the byte (R495, R497). -/
theorem State.blockCompare_repeatIf (s : State) (step : Word) :
    (s.blockCompare step).2.repeatIf ((s.blockCompare step).2.bc != 0 && (s.blockCompare step).1) =
      { (s.blockCompare step).2 with
        pc := if s.bc - 1 = 0 ∨ s.a = byteFrom s s.hl then s.pc else s.pc - 2
        tStates := s.tStates + if s.bc - 1 = 0 ∨ s.a = byteFrom s s.hl then 16 else 21 } := by
  have hagain : ((s.blockCompare step).2.bc != 0 && (s.blockCompare step).1) = true ↔
      ¬(s.bc - 1 = 0 ∨ s.a = byteFrom s s.hl) := by
    rw [Bool.and_eq_true, bne_iff_ne, State.blockCompare_2_bc, State.blockCompare_1_iff, not_or]
  rw [State.repeatIf_eq_of_iff_not _ hagain, State.blockCompare_eq]

/-! ## The statements -/

/-- Settles O34: each form is one block move; the repeating ones choose PC and the T-states by BC. -/
theorem blockMoveForms : Obligations.BlockMoveForms := by
  intro s v bc MoveFlags
  have hflags : MoveFlags (blockMoveFlags v s.a bc s.f) := blockMoveFlags_bits v s.a bc s.f
  have honce (step : Word) := congrArg (Host.Outcome.next : State → Result) (s.tick_blockMove step 16)
  have hrepeat (step : Word) := congrArg (Host.Outcome.next : State → Result) (s.blockMove_repeatIf step)
  have hhl : s.hl + -1 = s.hl - 1 := (sub_eq_add_neg _ _).symm
  have hde : s.de + -1 = s.de - 1 := (sub_eq_add_neg _ _).symm
  exact ⟨⟨_, hflags, storesByte_of_exec_eq_blockMove rfl rfl (honce 1)⟩,
    ⟨_, hflags, storesByte_of_exec_eq_blockMove rfl rfl (hrepeat 1)⟩,
    ⟨_, hflags, storesByte_of_exec_eq_blockMove hhl hde (honce (-1))⟩,
    ⟨_, hflags, storesByte_of_exec_eq_blockMove hhl hde (hrepeat (-1))⟩⟩

/-- Settles O35: each form is one block compare; the repeating ones choose PC and the T-states by BC and the match. -/
theorem blockCompareForms : Obligations.BlockCompareForms := by
  intro s v bc borrow CompareFlags
  have hflags : CompareFlags (blockCompareFlags s.a v bc s.f) := blockCompareFlags_bits s.a v bc s.f
  have hup := s.blockCompare_eq_after (step := 1) rfl
  have hdown := s.blockCompare_eq_after (step := -1) (sub_eq_add_neg _ _).symm
  exact ⟨⟨_, hflags, congrArg Host.Outcome.next ((s.tick_blockCompare 1 16).trans (hup _ _))⟩,
    ⟨_, hflags, congrArg Host.Outcome.next ((s.blockCompare_repeatIf 1).trans (hup _ _))⟩,
    ⟨_, hflags, congrArg Host.Outcome.next ((s.tick_blockCompare (-1) 16).trans (hdown _ _))⟩,
    ⟨_, hflags, congrArg Host.Outcome.next ((s.blockCompare_repeatIf (-1)).trans (hdown _ _))⟩⟩

end Sys2Proof.Machine
end

section
/-!
SUPPORT. Input and output (47_io.md R500 to R513): one access of a port, one iteration of a block input or output with
its flag byte, and the end of a repeating form, which is the B of before being 1.
-/

namespace Sys2Proof.Machine

open Sys2Proof.Claims

/-! ## One port access -/

/-- The byte of `IN r,(C)` is written before its flags; as whole states that makes no difference (R501). -/
theorem State.tick_setF_setR_portRead (s : State) (p : Word) (y : Reg8) (f : Byte) (n : Nat) :
    (((s.portRead p).2.setR y (s.portRead p).1).setF f).tick n =
      after (State.setR { s with f := f } y (s.bus.readPort p).1) n (s.bus.readPort p).2 := by
  cases y <;> rfl

/-! ## The flag byte of the block forms -/

theorem bitOf_blockIoFlags (b v addend : Byte) (n : Nat) :
    bitOf (blockIoFlags b v addend) n =
      (bitOf (szyx b) n || bitOf v 7 && bitOf 0x02 n || decide (255 < v.toNat + addend.toNat) && bitOf 0x11 n
        || bitOf (par (BitVec.ofNat 8 ((v.toNat + addend.toNat) % 8) ^^^ b)) n) := by
  simp only [blockIoFlags, bitOf_or, bitOf_flagIf, gt_iff_lt]

/-- S, Z and bits 5 and 3 from the new B, N bit 7 of the byte, H and C the carry of k, P/V the parity of
`(k and 7) xor B` (R506, R510; entry 15). -/
theorem blockIoFlags_bits (b v addend : Byte) :
    let g := blockIoFlags b v addend
    let k := v.toNat + addend.toNat
    ResultFlags g b ∧ (bitOf g 4 = true ↔ 255 < k) ∧
      (bitOf g 2 = true ↔ ones (BitVec.ofNat 8 (k % 8) ^^^ b) % 2 = 0) ∧ bitOf g 1 = bitOf v 7 ∧
      (bitOf g 0 = true ↔ 255 < k) := by
  refine ⟨resultFlags_of_szyx ?_ ?_ ?_ ?_, ?_, parityFlag_of_par ?_, ?_, ?_⟩ <;>
    simp [bitOf_blockIoFlags, bitOf_szyx, bitOf_par]

/-! ## One iteration -/

/-- An instruction that is one block input, then leaves PC at `pc` and adds T-states. -/
theorem storesByte_of_exec_eq_blockIn {i : Instr} {s : State} {step pc hl : Word} {addend : Byte} {n : Nat}
    (hhl : s.hl + step = hl) (haddend : s.c + loByte step = addend)
    (h : exec i s = .next { s.blockIn step with pc := pc, tStates := s.tStates + n }) :
    StoresByte i s s.hl (s.bus.readPort s.bc).1
      (after
        { s with
          b := s.b - 1, h := hiByte hl, l := loByte hl
          f := blockIoFlags (s.b - 1) (s.bus.readPort s.bc).1 addend, pc := pc }
        n (s.bus.readPort s.bc).2) := by
  rw [State.blockIn_eq, hhl, haddend] at h
  exact storesByte_of_exec_eq h (fun x => s.bus.cell_readPort s.bc x) (s.bus.memAnswer_readPort s.bc s.hl)

/-- One block output, then PC at `pc` and T-states added. -/
theorem State.blockOut_eq_after (s : State) {step hl : Word} (hhl : s.hl + step = hl) (pc : Word) (n : Nat) :
    { s.blockOut step with pc := pc, tStates := s.tStates + n } =
      after
        { s with
          b := s.b - 1, h := hiByte hl, l := loByte hl
          f := blockIoFlags (s.b - 1) (byteFrom s s.hl) (loByte hl), pc := pc }
        n ((busAfterRead s s.hl).writePort (mkWord (s.b - 1) s.c) (byteFrom s s.hl)) := by
  rw [State.blockOut_eq, hhl]
  rfl

/-! ## The end of a form, after an iteration `t` from `s` that has counted B down -/

section
variable {s t : State} (hpc : t.pc = s.pc) (ht : t.tStates = s.tStates)
include hpc ht

/-- A form that does not repeat keeps PC (R506, R508, R510, R512). -/
theorem State.tick_eq_of_pc_eq (n : Nat) : t.tick n = { t with pc := s.pc, tStates := s.tStates + n } := by
  rw [← hpc, ← ht]
  rfl

/-- A form that repeats goes on until the new B is 0, which it is just where B was 1 (R507, R509, R511, R513). -/
theorem State.repeatIf_eq_of_b_eq (hb : t.b = s.b - 1) :
    t.repeatIf (t.b != 0) =
      { t with
        pc := if s.b = 1 then s.pc else s.pc - 2, tStates := s.tStates + if s.b = 1 then 16 else 21 } := by
  have hagain : (t.b != 0) = true ↔ ¬s.b = 1 := by
    rw [hb]
    exact bne_iff_ne.trans sub_ne_zero
  rw [State.repeatIf_eq_of_iff_not _ hagain, hpc, ht]

end

/-! ## The statements -/

/-- Settles O36: each form is one port access; `szpKeepC` is the flag byte of the inputs that set F. -/
theorem portForms : Obligations.PortForms := by
  intro s n y InFlags atAN atBC
  have hflags : InFlags (szpKeepC atBC.1 s.f) atBC.1 := szpKeepC_bits atBC.1 s.f
  exact ⟨rfl, ⟨_, hflags, congrArg Host.Outcome.next (s.tick_setF_setR_portRead s.bc y _ 12)⟩,
    ⟨_, hflags, rfl⟩, rfl, rfl, rfl⟩

/-- Settles O37: each form is one block input or output; the repeating ones choose PC and the T-states by B. -/
theorem blockPortForms : Obligations.BlockPortForms := by
  intro s v m IoFlags
  have hflags (x addend : Byte) : IoFlags (blockIoFlags (s.b - 1) x addend) x (x.toNat + addend.toNat) :=
    blockIoFlags_bits (s.b - 1) x addend
  have hdown : s.hl + -1 = s.hl - 1 := (sub_eq_add_neg _ _).symm
  have hlow : loByte (-1) = -1 := by decide
  have hc : s.c + loByte (-1) = s.c - 1 := by rw [hlow, ← sub_eq_add_neg]
  have hin (step : Word) := congrArg (Host.Outcome.next : State → Result)
    (State.tick_eq_of_pc_eq (s := s) (t := s.blockIn step) rfl rfl 16)
  have hinRepeat (step : Word) := congrArg (Host.Outcome.next : State → Result)
    (State.repeatIf_eq_of_b_eq (s := s) (t := s.blockIn step) rfl rfl rfl)
  have hout {step hl : Word} (hhl : s.hl + step = hl) := congrArg (Host.Outcome.next : State → Result)
    ((State.tick_eq_of_pc_eq (s := s) (t := s.blockOut step) rfl rfl 16).trans (s.blockOut_eq_after hhl _ _))
  have houtRepeat {step hl : Word} (hhl : s.hl + step = hl) := congrArg (Host.Outcome.next : State → Result)
    ((State.repeatIf_eq_of_b_eq (s := s) (t := s.blockOut step) rfl rfl rfl).trans (s.blockOut_eq_after hhl _ _))
  exact ⟨⟨_, hflags v _, storesByte_of_exec_eq_blockIn rfl rfl (hin 1)⟩,
    ⟨_, hflags v _, storesByte_of_exec_eq_blockIn rfl rfl (hinRepeat 1)⟩,
    ⟨_, hflags v _, storesByte_of_exec_eq_blockIn hdown hc (hin (-1))⟩,
    ⟨_, hflags v _, storesByte_of_exec_eq_blockIn hdown hc (hinRepeat (-1))⟩,
    ⟨_, hflags m _, hout rfl⟩, ⟨_, hflags m _, houtRepeat rfl⟩,
    ⟨_, hflags m _, hout hdown⟩, ⟨_, hflags m _, houtRepeat hdown⟩⟩

end Sys2Proof.Machine
end

section
/-!
SUPPORT. CPU control, interrupt acceptance, the halted step and `Reset()` (48_cpu_control.md R520 to R530;
60_exceptions.md R156 to R161; 70_reset_and_hazards.md R200, R201): each as the whole state a step reaches.
-/

namespace Sys2Proof.Machine

open Sys2Proof.Claims

/-! ## CPU control -/

/-- Settles O38: the meaning of each instruction is its record update and its T-states. -/
theorem cpuControlForms : Obligations.CpuControlForms := by
  intro s x5 x3 x
  exact ⟨rfl, rfl, rfl, rfl, rfl, rfl, rfl, rfl⟩

/-! ## Acceptance -/

/-- `enterHandler` with its push counted from the SP of before. -/
theorem State.enterHandler_eq_pushed (s : State) :
    s.enterHandler =
      { s with halted := false, r := bumpR s.r, sp := s.sp - 2, bus := pushed s.bus s.sp s.pc } :=
  State.push16_eq_pushed _ _

/-- A step that accepts an interrupt and so reaches `t`: only a failing access stops it, and PC stands on the stack
where memory is as `push16` leaves it. -/
theorem enters_of_guardBus {s t : State} (hstep : step s = guardBus s.bus.trace.length (.next t)) (hext : s.Extends t)
    (hquiet : Quiet t.bus ↔ Quiet s.bus) (hpeek : ∀ x, t.peek x = (s.push16 s.pc).peek x) :
    StepsTo s t ∧ WordStored s t (s.sp - 2) s.pc ∧ (Quiet s.bus → step s = .next t) := by
  refine ⟨stepsTo_of_guardBus hext hstep, ?_, fun hq => ?_⟩
  · exact (wordStored_congr (fun _ => rfl) (fun _ => rfl) hpeek).mpr (s.wordStored_push16 s.pc)
  · obtain ⟨hf, hn, -⟩ := hquiet.mpr hq
    rw [hstep, guardBus_of_no_failure hf hn]

theorem acceptNmi_eq (s : State) :
    State.acceptNmi { s with tStates := 0 } =
      { s with
        nmiPending := false, halted := false, eiDelay := false, iff1 := false, r := bumpR s.r, sp := s.sp - 2
        pc := 0x0066, bus := pushed s.bus s.sp s.pc, tStates := 11 } := by
  rw [State.acceptNmi, State.enterHandler_eq_pushed]
  rfl

/-- Settles O48: the step is the acceptance, which pushes PC and makes no other access. -/
theorem nonMaskableInterruptEntry : Obligations.NonMaskableInterruptEntry := by
  intro s hn hf t
  have hext : s.Extends { s with tStates := 0 } := (State.Extends.refl s).of_same rfl rfl
  have haccept : State.acceptNmi { s with tStates := 0 } = t := acceptNmi_eq s
  refine enters_of_guardBus (by rw [step_of_nmiPending hf hn, haccept]) ?_ ?_ fun x => ?_
  · exact haccept ▸ hext.trans (acceptNmi_extends _)
  · exact haccept ▸ acceptNmi_quiet { s with tStates := 0 }
  · rw [State.push16_eq_pushed]
    rfl

/-- A restart byte is `11 ttt 111` (R158). -/
theorem isRestart_iff (d : Byte) : isRestart d = true ↔ d.toNat % 8 = 7 ∧ 0xC0 ≤ d.toNat := by
  revert d
  decide

/-- The target of a restart byte: `d and 0x38` (R158). -/
theorem zext16_restart (d : Byte) (h : isRestart d = true) :
    zext16 (d &&& 0x38) = BitVec.ofNat 16 (d.toNat - 0xC7) := by
  revert d
  decide

/-- The state that the acceptance of a maskable interrupt leaves, with its target, T-states and accesses (R157). -/
def State.accepted (s : State) (target : Word) (n : Nat) (bus : Bus) : State :=
  { s with
    intPending := none, iff1 := false, iff2 := false, halted := false, r := bumpR s.r, sp := s.sp - 2, pc := target
    bus := bus, tStates := s.tStates + n }

section
variable {s : State} {d : Byte}

/-- Mode 0 with a restart byte (R158). -/
theorem acceptInt_of_im0 (him : s.im = .im0) (hr : isRestart d = true) :
    s.acceptInt d = .next (s.accepted (BitVec.ofNat 16 (d.toNat - 0xC7)) 13 (pushed s.bus s.sp s.pc)) := by
  simp only [State.acceptInt, him, hr, if_true, State.enterHandler_eq_pushed, State.accepted, ← zext16_restart d hr]
  rfl

/-- Mode 1 (R159). -/
theorem acceptInt_of_im1 (him : s.im = .im1) :
    s.acceptInt d = .next (s.accepted 0x0038 13 (pushed s.bus s.sp s.pc)) := by
  simp only [State.acceptInt, him, State.enterHandler_eq_pushed, State.accepted]
  rfl

/-- Mode 2 reads its target after the push (R160). -/
theorem acceptInt_of_im2 (him : s.im = .im2) :
    let push := pushed s.bus s.sp s.pc
    let ptr := mkWord s.i d
    s.acceptInt d = .next (s.accepted (mkWord ((push.read ptr).2.read (ptr + 1)).1 (push.read ptr).1) 19
      ((push.read ptr).2.read (ptr + 1)).2) := by
  simp only [State.acceptInt, him, State.enterHandler_eq_pushed, State.memRead16_eq, State.accepted]
  rfl

theorem acceptInt_quiet {t : State} (h : s.acceptInt d = .next t) : Quiet t.bus ↔ Quiet s.bus := by
  obtain ⟨u, hu, hq⟩ | ⟨hrefused, -⟩ := acceptInt_cases d s
  · cases h.symm.trans hu
    exact hq
  · cases h.symm.trans hrefused

end

/-- Settles O49: the step is the acceptance, whose only write is the push of PC; mode 2 reads a word after it. -/
theorem maskableInterruptEntryByMode : Obligations.MaskableInterruptEntryByMode := by
  intro s d hn hd hi he hf entered push ptr enters
  have hacc : s.intAcceptable = true := intAcceptable_iff.mpr ⟨hi, he⟩
  have hpush : push = (s.push16 s.pc).bus := by rw [State.push16_eq_pushed]
  let s0 : State := { s with tStates := 0 }
  have hs0 : s.Extends s0 := (State.Extends.refl s).of_same rfl rfl
  have henters {t : State} (haccept : s0.acceptInt d = .next t) (hpeek : ∀ x, t.peek x = push.cell x) : enters t :=
    enters_of_guardBus (by rw [step_of_intPending hf hn hd hacc, haccept]) (hs0.trans (acceptInt_extends haccept))
      (acceptInt_quiet (s := s0) haccept) (by simpa [State.peek, hpush] using hpeek)
  refine ⟨fun him h7 hC0 => ?_, fun him hno => ?_, fun him => ?_, fun him => ?_⟩
  · exact henters (acceptInt_of_im0 (s := s0) him ((isRestart_iff d).mpr ⟨h7, hC0⟩)) fun _ => rfl
  · exact step_of_mode0Byte hf hn hd hacc him (Bool.eq_false_iff.mpr fun hr => hno ((isRestart_iff d).mp hr))
  · exact henters (acceptInt_of_im1 (s := s0) him) fun _ => rfl
  · exact henters (acceptInt_of_im2 (s := s0) him) fun _ => by simp [entered, State.peek]

/-! ## Halted -/

/-- An accepted interrupt leaves Halted (R156, R157). -/
theorem halted_of_acceptance {s t : State} (hq : ¬NoAcceptance s) (h : step s = .next t) : t.halted = false := by
  have hf := (step_next h).1
  obtain hn | ⟨d, hn, hd, ha⟩ | ⟨hq', -⟩ | ⟨hq', -⟩ := boundary_cases s
  · rw [step_of_nmiPending hf hn, acceptNmi_eq, guardBus_next] at h
    obtain ⟨ht, -⟩ := h
    cases ht
    rfl
  · rw [step_of_intPending hf hn hd ha, guardBus_next] at h
    obtain ⟨ht, -⟩ := h
    obtain ⟨-, -, rfl⟩ | ⟨-, rfl⟩ | ⟨-, rfl⟩ := State.acceptInt_next ht <;> rfl
  · exact absurd hq' hq
  · exact absurd hq' hq

/-- A step at a HALT opcode fetches that byte and halts (R161). -/
theorem stepsTo_halt {s : State} (hq : NoAcceptance s) (hh : s.halted = false) (hf : s.bus.failed = false)
    (hop : (s.bus.fetch s.pc).1 = 0x76) :
    StepsTo s
      { s with
        eiDelay := false, halted := true, pc := s.pc + 1, r := bumpR s.r, bus := (s.bus.fetch s.pc).2
        tStates := 4 } := by
  have hbytes : (fetched 1 s.bus s.pc).1 = [0x76] := congrArg (· :: []) hop
  have hdec : decode (fetched 1 s.bus s.pc).1 = .ok (.halt, []) := by
    rw [hbytes]
    rfl
  have hm1 : m1Fetches (s.bus.fetch s.pc).1 .halt = 1 := by
    rw [hop]
    rfl
  refine stepsTo_of_guardBus ⟨rfl, 1, s.bus.extends_fetch s.pc⟩ ?_
  rw [step_of_running hf hq hh]
  refine (runInstruction_of_decode (s := { s with tStates := 0, eiDelay := false }) (n := 0) hdec rfl).trans ?_
  rw [hm1]
  rfl

/-- Settles O51: the step at the opcode is `stepsTo_halt`, a later one that accepts nothing is `State.haltedStep`, and
one that accepts an interrupt enters a handler. -/
theorem haltedStep : Obligations.HaltedStep :=
  ⟨fun _ => rfl, fun _ => stepsTo_halt, fun _ hq hh hf => step_of_halted hf hq hh,
    fun _ _ hq _ => halted_of_acceptance hq, fun _ => rfl⟩

/-! ## Reset -/

/-- Settles O52: `Reset()` splits the pairs of RESET_REGS into registers, and a second one finds what the first left. -/
theorem resetAssignsEveryRegister : Obligations.ResetAssignsEveryRegister := by
  intro s t rr
  exact ⟨rfl, rfl, rfl, rfl, rfl, rfl, rfl, rfl, rfl, rfl, rfl, rfl, rfl, mkWord_hiByte_loByte _,
    mkWord_hiByte_loByte _, mkWord_hiByte_loByte _, mkWord_hiByte_loByte _, mkWord_hiByte_loByte _,
    mkWord_hiByte_loByte _, mkWord_hiByte_loByte _, rfl, rfl, rfl, rfl, rfl, rfl, rfl,
    State.resetCore_powerOn rr s.bus⟩

end Sys2Proof.Machine
end

section
/-!
SUPPORT. The latch of the maskable request is data that no instruction looks at (10_state.md R36; 60_exceptions.md R155,
R157): only the start of a step does, so a step that does not accept the request is the step without one.
-/

namespace Sys2Proof.Machine

open Sys2Proof.Claims

/-- The state with another latched maskable request (R36). -/
def State.withIntPending (p : Option Byte) (s : State) : State := { s with intPending := p }

section
variable (p : Option Byte)

/-! ## Instructions -/

theorem State.withIntPending_repeatIf (s : State) (again : Bool) :
    (s.repeatIf again).withIntPending p = (s.withIntPending p).repeatIf again := by
  cases again <;> rfl

/-- Every instruction leaves the latch alone and does the same whatever it holds: by evaluation, once the register that
a selector names and the condition that a branch tests are fixed; a fallback goes to its BASE instruction. -/
theorem exec_withIntPending (i : Instr) (s : State) :
    exec i (s.withIntPending p) = mapNext (State.withIntPending p) (exec i s) := by
  induction i generalizing s with
  | ldRR y | ldRN y | ldRAtHL y | ldRIdx _ y | incR y | decR y | inRC y | rlcR y | rrcR y | rlR y | rrR y | slaR y
  | sraR y | sllR y | srlR y | setR _ y | resR _ y | rlcIdxR _ _ y | rrcIdxR _ _ y | rlIdxR _ _ y | rrIdxR _ _ y
  | slaIdxR _ _ y | sraIdxR _ _ y | sllIdxR _ _ y | srlIdxR _ _ y | setIdxR _ _ _ y | resIdxR _ _ _ y =>
    cases y <;> rfl
  | ldDdNn q | ldDdAtNn q | popQq q | incSs q | decSs q => cases q <;> rfl
  | ldIiNn ii | ldIiAtNn ii | popIi ii | exAtSPIi ii | addIiPp ii | incIi ii | decIi ii => cases ii <;> rfl
  | ldPP ii y | ldPN ii y | incP ii y | decP ii y => cases ii <;> cases y <;> rfl
  | jpCcNn cc | jrCcE cc | callCcNn cc | retCc cc =>
    have hcc : (s.withIntPending p).cond cc = s.cond cc := rfl
    refine congrArg Host.Outcome.next ?_
    rw [hcc]
    cases s.cond cc <;> rfl
  | djnzE =>
    refine congrArg Host.Outcome.next (Eq.symm ?_)
    exact apply_ite (State.withIntPending p) _ _ _
  | ldir | lddr | cpir | cpdr | inir | indr | otir | otdr =>
    refine congrArg Host.Outcome.next (Eq.symm ?_)
    exact State.withIntPending_repeatIf p _ _
  | xyFallback ii base ih =>
    change execXyFallback ii base (s.withIntPending p) = mapNext _ (execXyFallback ii base s)
    rw [execXyFallback, execXyFallback]
    split
    · rw [execFallbackBase_eq_exec ‹_›, execFallbackBase_eq_exec ‹_›]
      exact ih (s.tick 4)
    · rfl
  | _ => rfl

/-! ## Steps -/

/-- The guard looks at the bus agent only. -/
theorem guardBus_withIntPending (n : Nat) (r : Result) :
    guardBus n (mapNext (State.withIntPending p) r) = mapNext (State.withIntPending p) (guardBus n r) := by
  cases r with
  | next s =>
    refine Eq.symm ?_
    exact apply_ite (mapNext (State.withIntPending p)) _ _ _
  | fault x | refused x => rfl

theorem State.fetchOperands_withIntPending (opcode : List Byte) (s : State) :
    (s.withIntPending p).fetchOperands opcode =
      ((s.fetchOperands opcode).1, (s.fetchOperands opcode).2.withIntPending p) := by
  simp only [State.fetchOperands, State.fetchBytes_eq_fetched]
  rfl

theorem runItem_withIntPending (n : Nat) (opcode : List Byte) (s : State) :
    runItem n opcode (s.withIntPending p) = mapNext (State.withIntPending p) (runItem n opcode s) := by
  simp only [runItem, State.fetchOperands_withIntPending, exec_withIntPending, guardBus_withIntPending]

/-- A chain of prefixes and its item, by what a round of it can be. -/
theorem runItems_withIntPending (n fuel : Nat) (b : Byte) (s : State) :
    runItems n fuel b (s.withIntPending p) = mapNext (State.withIntPending p) (runItems n fuel b s) := by
  induction fuel generalizing b s with
  | zero => rfl
  | succ left ih =>
    by_cases hlast : isXYByte b = true ∧ left = 0
    · obtain ⟨hb, rfl⟩ := hlast
      have hguard := guardBus_withIntPending p n (.next s)
      obtain hg | ⟨hg, -⟩ := guardBus_cases n s
      · rw [runItems_last hb hg]
        exact runItems_last hb (hguard.trans (congrArg _ hg))
      · rw [runItems_last_of_fault hb hg]
        exact runItems_last_of_fault hb (hguard.trans (congrArg _ hg))
    · have hleft : isXYByte b = true → left ≠ 0 := fun hb h0 => hlast ⟨hb, h0⟩
      obtain h | h | ⟨hop, ii, rfl⟩ := opcode_cases b s.fetchM1.1
      · rw [runItems_one h, runItems_one h]
        exact runItem_withIntPending p n _ s
      · rw [runItems_two h hleft, runItems_two (s := s.withIntPending p) h hleft]
        exact runItem_withIntPending p n _ s.fetchM1.2
      · have hii := IndexReg.ofByte_eq_some.mpr (rfl : ii.byte = ii.byte)
        have hleft := hleft (isXYByte_iff.mpr ⟨ii, rfl⟩)
        rw [runItems_of_dropped hii hleft hop, runItems_of_dropped (s := s.withIntPending p) hii hleft hop]
        exact ih _ (s.fetchM1.2.tick 4)

theorem runInstruction_withIntPending (s : State) :
    (s.withIntPending p).runInstruction = mapNext (State.withIntPending p) s.runInstruction :=
  runItems_withIntPending p s.bus.trace.length Config.prefixFuel s.fetchM1.1 s.fetchM1.2

end

/-- A step with a latched request, where no interrupt is accepted whatever is latched. -/
theorem step_withIntPending (p : Option Byte) {s : State} (hq : NoAcceptance s)
    (hp : NoAcceptance (s.withIntPending p)) :
    step (s.withIntPending p) = mapNext (State.withIntPending p) (step s) := by
  cases hf : s.bus.failed with
  | true =>
    rw [step_of_failed hf]
    exact step_of_failed hf
  | false =>
    cases hh : s.halted with
    | true =>
      rw [step_of_halted hf hq hh]
      exact step_of_halted (s := s.withIntPending p) hf hp hh
    | false =>
      rw [step_of_running hf hq hh]
      exact (step_of_running (s := s.withIntPending p) hf hp hh).trans
        (runInstruction_withIntPending p { s with tStates := 0, eiDelay := false })

/-- Settles O50: with IFF1 clear or the EI delay set no request is accepted, and nothing after that looks at the
latch. -/
theorem blockedMaskableRequestStaysLatched : Obligations.BlockedMaskableRequestStaysLatched :=
  fun s d hn hblocked => step_withIntPending (some d) (s := { s with intPending := none }) ⟨hn, .inl rfl⟩
    ⟨hn, .inr hblocked⟩

end Sys2Proof.Machine
end
